-- ==== Sys2Proof/Word.lean ====
section
/-! DEFINITION. The word types of the MiniSigGen CORE (spec/00_scope.md R10, R14). -/

namespace Sys2Proof

/-- A host register or a UQ24.8 frequency: 32 bits (R10, R16). -/
abbrev Word := BitVec 32

/-- A sample, an amplitude, a phase or a phase step: 8 bits (R10). -/
abbrev Byte := BitVec 8

/-- One operation word `opw[37:0]`, laid out as `{op[5:0], data[31:0]}` (30_encoding.md R80). -/
abbrev OpWord := BitVec 38

/-- The word index of a host register slot, 0..15 (30_encoding.md R82). -/
abbrev SlotIx := BitVec 4

end Sys2Proof
end

