-- ==== Sys2Proof/Config.lean ====
section
/-! DEFINITION. The fixed constants of this hardware (spec/00_scope.md R7 to R9, 10_state.md R42), the two OPEN
parameters of the spec (R11), and the free draws that no rule determines (R12, 41_configurator.md R153, R155). -/

namespace Sys2Proof.Config

/-- The tick period in microseconds (R8). -/
def tickPeriodUs : Nat := 50

/-- FS, the tick rate in Hz: 1,000,000 / 50 = 20,000 (R8, 90_conflicts.md C6). It is a parameter of the
hardware; no operation changes it. -/
def fs : Nat := 20000

/-- N, the length of each lookup table (R7). -/
def tableLength : Nat := 256

/-- AMP_MIN and AMP_MAX (R9). -/
def ampMin : Int := 0
@[inherit_doc ampMin] def ampMax : Int := 255

/-- CONT_HZ_MIN and CONT_HZ_MAX, in Hz (R9). -/
def contHzMin : Nat := 1
@[inherit_doc contHzMin] def contHzMax : Nat := 20000

/-- SQ_HZ_MIN and SQ_HZ_MAX, in Hz (R9, 90_conflicts.md C5). -/
def sqHzMin : Nat := 1
@[inherit_doc sqHzMin] def sqHzMax : Nat := 10000000

/-- STEP_MIN and STEP_MAX (R9). -/
def stepMin : Nat := 1
@[inherit_doc stepMin] def stepMax : Nat := 64

/-- The pulse duty, 50% of a 256-step period (10_state.md R42). -/
def pulseDuty : BitVec 8 := 128#8

/-- PULSE_DUTY_RES, the duty resolution in bits (R9, 10_state.md R42). -/
def pulseRes : BitVec 4 := 8#4

/-- The platform's answer to a setup request, the input port `setup_ans` (10_state.md R48). -/
inductive Answer where
  | ok
  | fail
  deriving DecidableEq, Repr, Inhabited

/-- FREE VALUE (log entry 3). The platform's answer to the n-th draw: "The answer is a free draw" (R12, R201).
No body: nothing in Lean can say which answer it is. -/
opaque setupAnswer : Nat → Answer

/-- FREE VALUE (log entry 2). The n-th pick among the pending engine field writes: "a free choice, a draw under no law"
(41_configurator.md R153). -/
opaque fieldPick : Nat → Nat

/-- OPEN parameter `BUS_BYTE_ORDER` (R11, 20_memory.md R67): the byte lane that carries byte k of a register if the
block is attached to a byte-addressed bus. No rule observes it (log entry 8). -/
opaque busByteLane : Fin 4 → Fin 4

/-- OPEN parameter `PULSE_REALIZE` (R11, 41_configurator.md R148): the frequency in Hz that the external pulse
peripheral produces for a requested UQ24.8 frequency. No block state depends on it (log entry 8). -/
opaque pulseRealize : Word → ℚ

end Sys2Proof.Config
end

