-- ==== Sys2Proof/Syntax.lean ====
section
/-! DEFINITION. The operations of the block: one constructor per row of spec/opcode_table.json
(spec/30_encoding.md R86). "The 'instructions' of this spec are these operations" (00_scope.md R2). -/

namespace Sys2Proof

/-- WaveformKind, "enumerated variant {Sine, Triangle, Sawtooth, Square}". The 2-bit codes of 10_state.md R27 are
in Decode.lean (`waveCode`, `waveOfCode`); all four are legal, so the type has no other value. -/
inductive Wave where
  | sine
  | triangle
  | sawtooth
  | square
  deriving DecidableEq, Repr, Inhabited

/-- The 23 operations. An operand is what the encoding gives it: the APPLY bit of WR_CTRL, the write data of the two
full-width staging registers, the wave code of WR_REQ_WAVE, and the slot index of the three rows that cover several
slots (R84, R86). Ignored bits (R88) are no operand. -/
inductive Instr where
  -- BUS_RD
  | rdCtrl
  | rdReqTargetHz
  | rdReqAmp
  | rdReqWave
  | rdStatus
  | rdCurTargetHz
  | rdCurActualHz
  | rdCurAmp
  | rdCurWave
  | rdPhase
  | rdPhaseStep
  | rdOut
  | rdPulseFreq
  | rdPulseCfg
  | rdRsvd (slot : SlotIx)
  -- BUS_WR
  | wrCtrl (apply : Bool)
  | wrReqTargetHz (wdata : Word)
  | wrReqAmp (wdata : Word)
  | wrReqWave (wave : Wave)
  | wrIgnoredLo (slot : SlotIx)
  | wrIgnoredHi (slot : SlotIx)
  -- EVT
  | tick
  | reset
  deriving DecidableEq, Repr

/-- The three formats of R81 that spell an operation. -/
inductive Format where
  | busRd
  | busWr
  | evt
  deriving DecidableEq, Repr

/-- The agent that issues an operation (R81's issuer column; 00_scope.md R12). -/
inductive Issuer where
  | host
  | tickSource
  | resetSource
  deriving DecidableEq, Repr

end Sys2Proof
end

