-- ==== Sys2Proof/WellFormed.lean ====
section
/-! DEFINITION. Which operation terms the encoding can spell: the slot operand of a row that covers several slots
lies in that row's range (spec/30_encoding.md R86, 40_host_bus.md R115, R120, R121). -/

namespace Sys2Proof

/-- The slot of RD_RSVD is 14 or 15 (R115), of WR_IGNORED_LO 4..7 (R120), of WR_IGNORED_HI 8..15 (R121). Every other
operand's type admits exactly the values its encoding field admits. -/
def Instr.wellFormed : Instr → Bool
  | .rdRsvd slot => 14 ≤ slot.toNat
  | .wrIgnoredLo slot => 4 ≤ slot.toNat && slot.toNat ≤ 7
  | .wrIgnoredHi slot => 8 ≤ slot.toNat
  | .rdCtrl => true
  | .rdReqTargetHz => true
  | .rdReqAmp => true
  | .rdReqWave => true
  | .rdStatus => true
  | .rdCurTargetHz => true
  | .rdCurActualHz => true
  | .rdCurAmp => true
  | .rdCurWave => true
  | .rdPhase => true
  | .rdPhaseStep => true
  | .rdOut => true
  | .rdPulseFreq => true
  | .rdPulseCfg => true
  | .wrCtrl _ => true
  | .wrReqTargetHz _ => true
  | .wrReqAmp _ => true
  | .wrReqWave _ => true
  | .tick => true
  | .reset => true

/-- `i` is an operation that some operation word spells. -/
abbrev Instr.WellFormed (i : Instr) : Prop := i.wellFormed = true

end Sys2Proof
end

