-- ==== Sys2Proof/Decode.lean ====
section
/-! DEFINITION. The decoder of operation words, total on every 38-bit word, and the encoder, both written from
spec/30_encoding.md R80 to R88 and spec/opcode_table.json. -/

namespace Sys2Proof

/-- Why a word spells no operation (R87): the reserved event numbers 2..15 (op 0x22..0x2F), or the reserved format 11
(op 0x30..0x3F). -/
inductive DecodeError where
  | reservedEvent (idx : SlotIx)
  | reservedFormat (idx : SlotIx)
  deriving DecidableEq, Repr

/-- `op = opw[37:32]` (R80). -/
def opField (w : OpWord) : BitVec 6 := w.extractLsb' 32 6

/-- `data = opw[31:0]` (R80). -/
def dataField (w : OpWord) : Word := w.extractLsb' 0 32

/-- `kind = op[5:4]` (R81). -/
def kindField (w : OpWord) : BitVec 2 := (opField w).extractLsb' 4 2

/-- `idx = op[3:0]` (R81). -/
def idxField (w : OpWord) : SlotIx := (opField w).extractLsb' 0 4

/-- The wave codes (10_state.md R27): 0 Sine, 1 Triangle, 2 Sawtooth, 3 Square. -/
def waveCode : Wave → BitVec 2
  | .sine => 0#2
  | .triangle => 1#2
  | .sawtooth => 2#2
  | .square => 3#2

/-- The wave kind of a 2-bit code; "All four values are legal" (10_state.md R27). -/
def waveOfCode (c : BitVec 2) : Wave :=
  if c = 0#2 then .sine
  else if c = 1#2 then .triangle
  else if c = 2#2 then .sawtooth
  else .square

/-- Format BUS_RD: the slot selects the row, and the data is ignored (R82, R86, R88). -/
def decodeRead (idx : SlotIx) : Instr :=
  if idx = 0#4 then .rdCtrl
  else if idx = 1#4 then .rdReqTargetHz
  else if idx = 2#4 then .rdReqAmp
  else if idx = 3#4 then .rdReqWave
  else if idx = 4#4 then .rdStatus
  else if idx = 5#4 then .rdCurTargetHz
  else if idx = 6#4 then .rdCurActualHz
  else if idx = 7#4 then .rdCurAmp
  else if idx = 8#4 then .rdCurWave
  else if idx = 9#4 then .rdPhase
  else if idx = 10#4 then .rdPhaseStep
  else if idx = 11#4 then .rdOut
  else if idx = 12#4 then .rdPulseFreq
  else if idx = 13#4 then .rdPulseCfg
  else .rdRsvd idx

/-- Format BUS_WR: the bits of `wdata` that R84 gives each slot. -/
def decodeWrite (idx : SlotIx) (wdata : Word) : Instr :=
  if idx = 0#4 then .wrCtrl (wdata.getLsbD 0)
  else if idx = 1#4 then .wrReqTargetHz wdata
  else if idx = 2#4 then .wrReqAmp wdata
  else if idx = 3#4 then .wrReqWave (waveOfCode (wdata.extractLsb' 0 2))
  else if idx.toNat < 8 then .wrIgnoredLo idx
  else .wrIgnoredHi idx

/-- Format EVT: event 0 is TICK, event 1 is RESET, events 2..15 are reserved (R83, R87). -/
def decodeEvent (idx : SlotIx) : Except DecodeError Instr :=
  if idx = 0#4 then .ok .tick
  else if idx = 1#4 then .ok .reset
  else .error (.reservedEvent idx)

/-- The operation a word spells (R81). -/
def decodeOp (w : OpWord) : Except DecodeError Instr :=
  if kindField w = 0#2 then .ok (decodeRead (idxField w))
  else if kindField w = 1#2 then .ok (decodeWrite (idxField w) (dataField w))
  else if kindField w = 2#2 then decodeEvent (idxField w)
  else .error (.reservedFormat (idxField w))

/-- The operation word of the numbers the opcode table uses: bit 0 is the least significant bit of the 38-bit word.
Only the low `nbits` bits of `w` are given, and the port has 38 wires, so a bit above bit 37 goes nowhere. -/
def tableOpWord (nbits w : Nat) : OpWord := BitVec.ofNat 38 (w % 2 ^ nbits)

/-- The instruction the decoder reads from an instruction whose bits are `w`. -/
def decodeTableWord (nbits w : Nat) : Option Instr :=
  match decodeOp (tableOpWord nbits w) with
  | .ok i => some i
  | .error _ => none

/-! ## The encoder -/

/-- `{op[5:0], data[31:0]}` (R80). -/
def opWord (op : BitVec 6) (data : Word) : OpWord := op ++ data

/-- The operation code `{kind, idx}` of format BUS_RD (R81). -/
def readOp (idx : SlotIx) : BitVec 6 := 0#2 ++ idx

/-- The operation code `{kind, idx}` of format BUS_WR (R81). -/
def writeOp (idx : SlotIx) : BitVec 6 := 1#2 ++ idx

/-- The word of an operation, each ignored bit 0 (R86; R89 encodes data 0 for BUS_RD and EVT). -/
def encode : Instr → OpWord
  | .rdCtrl => opWord 0x00#6 0#32
  | .rdReqTargetHz => opWord 0x01#6 0#32
  | .rdReqAmp => opWord 0x02#6 0#32
  | .rdReqWave => opWord 0x03#6 0#32
  | .rdStatus => opWord 0x04#6 0#32
  | .rdCurTargetHz => opWord 0x05#6 0#32
  | .rdCurActualHz => opWord 0x06#6 0#32
  | .rdCurAmp => opWord 0x07#6 0#32
  | .rdCurWave => opWord 0x08#6 0#32
  | .rdPhase => opWord 0x09#6 0#32
  | .rdPhaseStep => opWord 0x0A#6 0#32
  | .rdOut => opWord 0x0B#6 0#32
  | .rdPulseFreq => opWord 0x0C#6 0#32
  | .rdPulseCfg => opWord 0x0D#6 0#32
  | .rdRsvd slot => opWord (readOp slot) 0#32
  | .wrCtrl apply => opWord 0x10#6 (0#31 ++ BitVec.ofBool apply)
  | .wrReqTargetHz wdata => opWord 0x11#6 wdata
  | .wrReqAmp wdata => opWord 0x12#6 wdata
  | .wrReqWave wave => opWord 0x13#6 (0#30 ++ waveCode wave)
  | .wrIgnoredLo slot => opWord (writeOp slot) 0#32
  | .wrIgnoredHi slot => opWord (writeOp slot) 0#32
  | .tick => opWord 0x20#6 0#32
  | .reset => opWord 0x21#6 0#32

/-- The format of an operation (R81, R86). -/
def Instr.format : Instr → Format
  | .rdCtrl => .busRd
  | .rdReqTargetHz => .busRd
  | .rdReqAmp => .busRd
  | .rdReqWave => .busRd
  | .rdStatus => .busRd
  | .rdCurTargetHz => .busRd
  | .rdCurActualHz => .busRd
  | .rdCurAmp => .busRd
  | .rdCurWave => .busRd
  | .rdPhase => .busRd
  | .rdPhaseStep => .busRd
  | .rdOut => .busRd
  | .rdPulseFreq => .busRd
  | .rdPulseCfg => .busRd
  | .rdRsvd _ => .busRd
  | .wrCtrl _ => .busWr
  | .wrReqTargetHz _ => .busWr
  | .wrReqAmp _ => .busWr
  | .wrReqWave _ => .busWr
  | .wrIgnoredLo _ => .busWr
  | .wrIgnoredHi _ => .busWr
  | .tick => .evt
  | .reset => .evt

/-- The agent that issues an operation (R81): TICK is the TickSource's, RESET the ResetSource's, the rest the Host's. -/
def Instr.issuer (i : Instr) : Issuer :=
  match i.format with
  | .busRd => .host
  | .busWr => .host
  | .evt => if i = .tick then .tickSource else .resetSource

/-- A host bus operation: a BUS_RD or a BUS_WR. -/
def Instr.isHost (i : Instr) : Bool := i.issuer = .host

end Sys2Proof
end

