-- ==== Sys2Proof/Machine/State.lean ====
section
/-! DEFINITION. The state of the block (spec/10_state.md R20, R44 to R46, R50), the output event history it is observed
by (00_scope.md R13), and its input ports (10_state.md R48). Plain data throughout. -/

namespace Sys2Proof.Machine

/-- The three things a setup request can ask the platform for (60_exceptions.md R200): the analog output peripheral,
the periodic tick timer, the pulse peripheral. -/
inductive Peripheral where
  | dac
  | tickTimer
  | pulse
  deriving DecidableEq, Repr

/-- The output events (00_scope.md R13). -/
inductive Event where
  | dacWrite (code : Byte)
  | dacEnable
  | dacDisable
  | tickStart
  | tickStop
  | pulseFreq (f : Word)
  | pulseArm
  | pulseDisarm
  | setupFail (which : Peripheral)
  | reset
  deriving DecidableEq, Repr

/-- One engine field write of the FIELDS stage (41_configurator.md R150, R154). -/
inductive FieldWrite where
  | phaseStep (step : Byte)
  | ampScale (amp : Byte)
  | activeWave (wave : Wave)
  | pulseFreq (t : Word)
  deriving DecidableEq, Repr

/-- The mode of a job (41_configurator.md R142, R149). Only a continuous job has a step ("step=none" in Square). -/
inductive Mode where
  | cont (step : Byte)
  | square
  deriving DecidableEq, Repr

/-- The result of Configure (41_configurator.md R149): `t` and `actual` are UQ24.8. -/
structure Job where
  mode : Mode
  wave : Wave
  amp : Byte
  t : Word
  actual : Word
  deriving DecidableEq, Repr

/-- The stages of the sequencer (10_state.md R46, 41_configurator.md R150). -/
inductive Stage where
  | disable
  | fields
  | enableDac
  | enableTick
  | enablePulse
  | facade
  deriving DecidableEq, Repr

/-- The sequencer state `seq` (10_state.md R46). `pending` is the set of engine field writes that the FIELDS stage has
not made yet; a list without repeats stands for the set. -/
inductive Seq where
  | idle
  | busy (job : Job) (stage : Stage) (pending : List FieldWrite)
  deriving DecidableEq, Repr

/-- The state elements of the block (10_state.md R20, R44, R50). -/
structure Block where
  /-- REQ_TARGET_HZ, UQ24.8 (R25). -/
  reqTarget : Word
  /-- REQ_AMP, a raw two's complement pattern (R26). -/
  reqAmp : Word
  /-- REQ_WAVE.WAVE (R27). -/
  reqWave : Wave
  /-- CUR_TARGET_HZ (R34). -/
  curTarget : Word
  /-- CUR_ACTUAL_HZ (R35). -/
  curActual : Word
  /-- CUR_AMP (R36). -/
  curAmp : Byte
  /-- CUR_WAVE (R37). -/
  curWave : Wave
  /-- STATUS.CONFIGURED (R29). -/
  configured : Bool
  /-- The phase accumulator, PHASE (R38). -/
  phase : Byte
  /-- PHASE_STEP (R39). -/
  phaseStep : Byte
  /-- The amplitude the scaler uses (R44). -/
  ampScale : Byte
  /-- The wave the tick engine plays (R44). -/
  activeWave : Wave
  /-- STATUS.TICK_EN (R30). -/
  tickEn : Bool
  /-- STATUS.DAC_EN (R31). -/
  dacEn : Bool
  /-- STATUS.PULSE_EN (R32). -/
  pulseEn : Bool
  /-- PULSE_FREQ, UQ24.8 (R41). -/
  pulseFreq : Word
  /-- OUT, the last sample written to the DAC (R40). -/
  out : Byte
  /-- STATUS.SETUP_FAULT, sticky (R33). -/
  setupFault : Bool
  /-- STATUS.FAULT_SRC: 0 none, 1 DAC, 2 tick timer, 3 pulse (R28, R33). -/
  faultSrc : BitVec 2
  /-- The configurator's sequencer (R46). -/
  seq : Seq
  deriving DecidableEq, Repr

/-- Every element at its reset value (R50). The tables are constant and stand in Machine/Tables.lean (20_memory.md
R65). -/
def Block.reset : Block where
  reqTarget := 0
  reqAmp := 0
  reqWave := .sine
  curTarget := 0
  curActual := 0
  curAmp := 0
  curWave := .sine
  configured := false
  phase := 0
  phaseStep := 0
  ampScale := 0
  activeWave := .sine
  tickEn := false
  dacEn := false
  pulseEn := false
  pulseFreq := 0
  out := 0
  setupFault := false
  faultSrc := 0
  seq := .idle

/-- What the outside sees of a run (00_scope.md R13): the event history and the host read results, in step order, and
the three output ports whose value belongs to a step rather than to a state element (10_state.md R47), as the last
step drove them. -/
structure Observed where
  /-- The output event history (R13), oldest first. -/
  history : List Event
  /-- The host read results (R13), oldest first. -/
  reads : List Word
  /-- `dac_we`: 1 if the last step was an effective TICK (R47). -/
  dacWe : Bool
  /-- `setup_req`: the peripheral the last step asked for, else 0 (R47). -/
  setupReq : BitVec 2
  /-- `rdata`: the result if the last step was a host read (R47). -/
  rdata : Option Word
  deriving DecidableEq, Repr

/-- Nothing observed yet: "the output history is empty" before the first RESET (70_reset_and_hazards.md R224). -/
def Observed.blank : Observed where
  history := []
  reads := []
  dacWe := false
  setupReq := 0
  rdata := none

/-- One turn of the agents' order of steps (00_scope.md R12): the Host, the TickSource or the ResetSource offers an
operation word, or the Sequencer takes a micro-step. -/
inductive Turn where
  | operation (w : OpWord)
  | sequencer
  deriving DecidableEq, Repr

/-- The MODEL's own fields, the input side (10_state.md R48; log entries 1 to 3). "The order of steps between agents is
free" (00_scope.md R12): a run takes the turns that this list holds, so a claim about every state is a claim about
every interleaving. -/
structure Inputs where
  /-- The turns to come, the next one first. -/
  turns : List Turn
  /-- The picks already drawn for the FIELDS stage, the next one first. -/
  picks : List Nat
  /-- The platform's answers already drawn, in request order. -/
  answers : List Config.Answer
  /-- How many draws were taken from the free values of Config. -/
  draws : Nat
  deriving DecidableEq, Repr

/-- No input waiting, no draw taken. -/
def Inputs.none : Inputs where
  turns := []
  picks := []
  answers := []
  draws := 0

/-- The machine: the block, the bookkeeping bit `resetTaken` ("It is not state of the block and no operation can read
it", R51), what is observed, and the inputs to come. -/
structure State where
  blk : Block
  resetTaken : Bool
  obs : Observed
  inp : Inputs
  deriving DecidableEq, Repr

/-- Why a step stops with a fault. NO STEP DOES: the only fault of the block, SetupFault, is a state that the block goes
on from (60_exceptions.md R200, R202, R205), and it is recorded in `setupFault` and `faultSrc`. Hence no
constructor. Safe: nothing is cut off. -/
inductive Fault where
  deriving DecidableEq, Repr

/-- Why a step is refused. -/
inductive Refusal where
  /-- Raised by exec for an instruction without a meaning; no instruction is one. Safe. -/
  | notModelled (mnemonic : String)
  /-- Raised by every operation but RESET, and by a Sequencer turn, before the first RESET (10_state.md R51,
  70_reset_and_hazards.md R224). Safe: "it admits no run that depends on power-up values". -/
  | beforeReset
  /-- Raised by a step offered a word with a reserved event number, op 0x22..0x2F (30_encoding.md R87). Safe. -/
  | reservedEvent (idx : SlotIx)
  /-- Raised by a step offered a word of the reserved format, op 0x30..0x3F (30_encoding.md R87). Safe. -/
  | reservedFormat (idx : SlotIx)
  deriving DecidableEq, Repr

/-- The machine right after the first RESET (70_reset_and_hazards.md R220): every element at its reset value, the history
holding the one event RESET emits, nothing offered by any agent. -/
def State.reset : State where
  blk := Block.reset
  resetTaken := true
  obs := { Observed.blank with history := [.reset] }
  inp := Inputs.none

end Sys2Proof.Machine
end

