-- ==== Sys2Proof/Machine/Operands.lean ====
section
/-! DEFINITION. The arithmetic on operands: the helper functions of spec/00_scope.md R16 and R17, the clamps and the
quantizer of 41_configurator.md section 1, and the amplitude scaler of 42_tick_engine.md R183. Everything is computed on
unbounded integers and narrowed once (R14). -/

namespace Sys2Proof.Machine

/-- `clamp(v, lo, hi)` on natural numbers (R17). -/
def clampNat (v lo hi : Nat) : Nat := if v < lo then lo else if hi < v then hi else v

/-- `clamp(v, lo, hi)` on integers (R17). -/
def clampInt (v lo hi : Int) : Int := if v < lo then lo else if hi < v then hi else v

/-- `rnd(a, b) = floor((2·a + b) / (2·b))`: a/b rounded to the nearest integer, exact halves up (R17). -/
def rnd (a b : Nat) : Nat := (2 * a + b) / (2 * b)

/-- `q8(x)` of a whole number of Hz (R16). -/
def q8 (hz : Nat) : Nat := hz * 256

/-- `s32(v)`: a 32-bit pattern read as two's complement (R14). -/
def s32 (v : Word) : Int := v.toInt

/-- The amplitude clamp `clamp(s32(reqAmp), 0, 255)` (R141). -/
def ampClamp (reqAmp : Word) : Byte :=
  BitVec.ofInt 8 (clampInt (s32 reqAmp) Config.ampMin Config.ampMax)

/-- The continuous frequency clamp `clamp(reqTarget, q8(1), q8(20000))` (R143). -/
def contTarget (reqTarget : Word) : Nat :=
  clampNat reqTarget.toNat (q8 Config.contHzMin) (q8 Config.contHzMax)

/-- The square frequency clamp `clamp(reqTarget, q8(1), q8(10000000))` (R147). -/
def squareTarget (reqTarget : Word) : Nat :=
  clampNat reqTarget.toNat (q8 Config.sqHzMin) (q8 Config.sqHzMax)

/-- The quantizer: the ideal step t / FS rounded (R144) and clamped to 1..64 (R145). -/
def quantizeStep (t : Nat) : Nat :=
  clampNat (rnd t Config.fs) Config.stepMin Config.stepMax

/-- The continuous achieved frequency `FS · step`, as UQ24.8 (R146). -/
def contActual (step : Nat) : Nat := Config.fs * step

/-- `Configure` (R149). The mode is that of the requested wave (R142). -/
def configure (reqTarget reqAmp : Word) (reqWave : Wave) : Job :=
  match reqWave with
  | .square =>
    { mode := .square
      wave := .square
      amp := ampClamp reqAmp
      t := BitVec.ofNat 32 (squareTarget reqTarget)
      actual := BitVec.ofNat 32 (squareTarget reqTarget) }
  | wave =>
    { mode := .cont (BitVec.ofNat 8 (quantizeStep (contTarget reqTarget)))
      wave := wave
      amp := ampClamp reqAmp
      t := BitVec.ofNat 32 (contTarget reqTarget)
      actual := BitVec.ofNat 32 (contActual (quantizeStep (contTarget reqTarget))) }

/-- `FieldsOf(job)`: the engine field writes of a job (R150). -/
def fieldsOf (job : Job) : List FieldWrite :=
  match job.mode with
  | .cont step => [.phaseStep step, .ampScale job.amp, .activeWave job.wave]
  | .square => [.ampScale job.amp, .activeWave .square, .pulseFreq job.t]

/-- The amplitude scaler: bits [15:8] of the 16-bit unsigned product (42_tick_engine.md R183; 90_conflicts.md C3). -/
def scale (raw amp : Byte) : Byte :=
  (raw.zeroExtend 16 * amp.zeroExtend 16).extractLsb' 8 8

/-- The phase advance, modulo 256 (42_tick_engine.md R185). -/
def advancePhase (phase step : Byte) : Byte := phase + step

/-- A field narrower than 32 bits in a read: zero-extended (30_encoding.md R85). -/
def zext32 {n : Nat} (v : BitVec n) : Word := v.zeroExtend 32

/-- A wave kind in a read: its code, zero-extended (40_host_bus.md R104, R109). -/
def waveWord (w : Wave) : Word := zext32 (waveCode w)

/-- The code of a peripheral in FAULT_SRC and on `setup_req` (60_exceptions.md R200, 10_state.md R47). -/
def peripheralCode : Peripheral → BitVec 2
  | .dac => 1#2
  | .tickTimer => 2#2
  | .pulse => 3#2

end Sys2Proof.Machine
end

