-- ==== Sys2Proof/Machine/Flags.lean ====
section
/-! DEFINITION. The STATUS word and the other packed register words (spec/10_state.md R28, R42), the flag updates the
rules make (R49: only the sequencer and RESET write a flag), and the phases of the sequencer that other rules ask for. -/

namespace Sys2Proof.Machine

/-- A read of STATUS: `{25'b0, faultSrc[1:0], setupFault, pulseEn, dacEn, tickEn, configured}` (R28,
40_host_bus.md R105). -/
def statusWord (b : Block) : Word :=
  0#25 ++ b.faultSrc ++ BitVec.ofBool b.setupFault ++ BitVec.ofBool b.pulseEn ++
    BitVec.ofBool b.dacEn ++ BitVec.ofBool b.tickEn ++ BitVec.ofBool b.configured

/-- PULSE_CFG, the constant 0x00000880: DUTY in bits [7:0], RES in bits [11:8] (R42). -/
def pulseCfgWord : Word := 0#20 ++ Config.pulseRes ++ Config.pulseDuty

/-- The fault flags after a setup failure of `which`: SETUP_FAULT is set, and FAULT_SRC takes the code only if
SETUP_FAULT was 0 just before (R33, 60_exceptions.md R200). -/
def faultFlags (which : Peripheral) (b : Block) : Block :=
  { b with
    setupFault := true
    faultSrc := if b.setupFault then b.faultSrc else peripheralCode which }

/-- `seq = Idle` (R46). -/
def Seq.isIdle : Seq → Bool
  | .idle => true
  | .busy _ _ _ => false

end Sys2Proof.Machine
end

