-- ==== Sys2Proof/Machine/Ops.lean ====
section
/-! DEFINITION. The shared operations: recording an event, a free draw, answering a host read, accepting a host
operation, raising SetupFault (the block's only fault, spec/60_exceptions.md R200) and taking RESET
(70_reset_and_hazards.md R220). There is no trap entry and no return from one (R205, R206): raising SetupFault is all
there is. -/

namespace Sys2Proof.Machine

/-- `emit E`: append an event to the output history (00_scope.md R15). -/
def emit (e : Event) (s : State) : State :=
  { s with obs := { s.obs with history := s.obs.history ++ [e] } }

/-- A change of the block's state elements alone. -/
def setBlock (b : Block) (s : State) : State := { s with blk := b }

/-- `seq` takes a value (10_state.md R46). -/
def setSeq (q : Seq) (s : State) : State := setBlock { s.blk with seq := q } s

/-- The APPLY in progress goes to another stage, with no field write pending (41_configurator.md R150). -/
def toStage (job : Job) (stage : Stage) (s : State) : State := setSeq (.busy job stage []) s

/-- The ports that belong to one step, at rest: `dac_we` = 0, `setup_req` = 0, no `rdata` (10_state.md R47). -/
def restPorts (s : State) : State :=
  { s with obs := { s.obs with dacWe := false, setupReq := 0, rdata := none } }

/-! ## Free draws -/

/-- One draw of a pick (41_configurator.md R153; log entry 2): the next one of the inputs, else a free value. -/
def drawPick (s : State) : Nat × State :=
  match s.inp.picks with
  | k :: rest => (k, { s with inp := { s.inp with picks := rest } })
  | [] => (Config.fieldPick s.inp.draws, { s with inp := { s.inp with draws := s.inp.draws + 1 } })

/-- One draw of the platform's answer (00_scope.md R12; log entry 3): the next one of the inputs, else a free value. -/
def drawAnswer (s : State) : Config.Answer × State :=
  match s.inp.answers with
  | a :: rest => (a, { s with inp := { s.inp with answers := rest } })
  | [] => (Config.setupAnswer s.inp.draws, { s with inp := { s.inp with draws := s.inp.draws + 1 } })

/-- `answer <- Platform.setup(which)`: `setup_req` shows the peripheral, and the platform answers in the same step
(00_scope.md R15, 10_state.md R47, 41_configurator.md R155). -/
def requestSetup (which : Peripheral) (s : State) : Config.Answer × State :=
  drawAnswer { s with obs := { s.obs with setupReq := peripheralCode which } }

/-! ## Host bus -/

/-- `rdata <- v`: the result of a host read, on the port and in the list of read results (00_scope.md R13,
30_encoding.md R85). "No host read changes any state or records any output event" (40_host_bus.md R100). -/
def answerRead (v : Word) (s : State) : State :=
  { s with obs := { s.obs with reads := s.obs.reads ++ [v], rdata := some v } }

/-- The precondition of every host operation (40_host_bus.md R100): refused before the first RESET, and while `seq` is
Busy the operation waits with none of its effect. Which agent moves meanwhile is said by `nextMove`
(Machine/Schedule.lean). -/
def hostAccept (effect : State → State) (s : State) : Host.Outcome State Fault Refusal :=
  if s.resetTaken then
    if s.blk.seq.isIdle then .next (effect s) else .next s
  else .refused .beforeReset

/-! ## The fault -/

/-- `raise SetupFault(which)` (60_exceptions.md R200): the fault flags, and the event SetupFail. It saves no state and
transfers no control (R205). The caller sends the sequencer to FACADE. -/
def raiseSetupFault (which : Peripheral) (s : State) : State :=
  emit (.setupFail which) (setBlock (faultFlags which s.blk) s)

/-! ## Power-up and reset -/

/-- The machine at power-up (70_reset_and_hazards.md R224, 10_state.md R51): no RESET taken, no event, nothing read. The
elements are unspecified, so `b` is any block, and `i` is whatever the outside offers. -/
def State.powerUp (b : Block) (i : Inputs) : State where
  blk := b
  resetTaken := false
  obs := Observed.blank
  inp := i

/-- The machine from power-up until the first RESET (R224): `resetTaken` is 0 and "the output history is empty"; no host read
has been answered either. It says nothing of the elements and the ports, which a model may not rely on. -/
def State.PoweredUp (s : State) : Prop :=
  s.resetTaken = false ∧ s.obs.history = [] ∧ s.obs.reads = []

/-- RESET (70_reset_and_hazards.md R220, R222): every element takes its reset value, an APPLY in progress is abandoned, a
setup request in flight is withdrawn, `resetTaken` becomes 1, and the history gets `Reset`. -/
def takeReset (s : State) : State :=
  emit .reset { restPorts s with blk := Block.reset, resetTaken := true }

end Sys2Proof.Machine
end

