-- ==== Sys2Proof/Machine/Tables.lean ====
section
/-! DEFINITION. The lookup-table ROM: three constant tables of 256 unsigned 8-bit entries (spec/20_memory.md R60 to
R65). No operation changes them, so they are constants of the model and not a field of the state (log entry 9). -/

namespace Sys2Proof.Machine

/-- The tables of R60. "There is no table for w = 3 (Square)". -/
inductive Table where
  | sine
  | triangle
  | sawtooth
  deriving DecidableEq, Repr

/-- The table of a wave kind (R60): none for Square. -/
def tableOf : Wave → Option Table
  | .sine => some .sine
  | .triangle => some .triangle
  | .sawtooth => some .sawtooth
  | .square => none

/-- Rows 0 to 112 of the sine table, transcribed from R62. -/
def sineUpper : List Nat :=
  [128, 131, 134, 137, 140, 143, 146, 149, 152, 155, 158, 162, 165, 167, 170, 173] ++
  [176, 179, 182, 185, 188, 190, 193, 196, 198, 201, 203, 206, 208, 211, 213, 215] ++
  [218, 220, 222, 224, 226, 228, 230, 232, 234, 235, 237, 238, 240, 241, 243, 244] ++
  [245, 246, 248, 249, 250, 250, 251, 252, 253, 253, 254, 254, 254, 255, 255, 255] ++
  [255, 255, 255, 255, 254, 254, 254, 253, 253, 252, 251, 250, 250, 249, 248, 246] ++
  [245, 244, 243, 241, 240, 238, 237, 235, 234, 232, 230, 228, 226, 224, 222, 220] ++
  [218, 215, 213, 211, 208, 206, 203, 201, 198, 196, 193, 190, 188, 185, 182, 179] ++
  [176, 173, 170, 167, 165, 162, 158, 155, 152, 149, 146, 143, 140, 137, 134, 131]

/-- Rows 128 to 240 of the sine table, transcribed from R62. -/
def sineLower : List Nat :=
  [128, 124, 121, 118, 115, 112, 109, 106, 103, 100, 97, 93, 90, 88, 85, 82] ++
  [79, 76, 73, 70, 67, 65, 62, 59, 57, 54, 52, 49, 47, 44, 42, 40] ++
  [37, 35, 33, 31, 29, 27, 25, 23, 21, 20, 18, 17, 15, 14, 12, 11] ++
  [10, 9, 7, 6, 5, 5, 4, 3, 2, 2, 1, 1, 1, 0, 0, 0] ++
  [0, 0, 0, 0, 1, 1, 1, 2, 2, 3, 4, 5, 5, 6, 7, 9] ++
  [10, 11, 12, 14, 15, 17, 18, 20, 21, 23, 25, 27, 29, 31, 33, 35] ++
  [37, 40, 42, 44, 47, 49, 52, 54, 57, 59, 62, 65, 67, 70, 73, 76] ++
  [79, 82, 85, 88, 90, 93, 97, 100, 103, 106, 109, 112, 115, 118, 121, 124]

/-- The sine table (R61, R62). -/
def sineTable : List Nat := sineUpper ++ sineLower

/-- An entry of the triangle table: "rising ramp `2i` for `i<N/2`, falling ramp `2(N-1-i)` otherwise" (R63; 90_conflicts.md
C1). -/
def triangleEntry (i : Nat) : Nat :=
  if i < Config.tableLength / 2 then 2 * i else 2 * (Config.tableLength - 1 - i)

/-- An entry of the sawtooth table: `saw[i] = i` (R64). -/
def sawtoothEntry (i : Nat) : Nat := i

/-- `LutRead(w, p)`: entry p of table w (R60). -/
def lutRead (t : Table) (p : Byte) : Byte :=
  match t with
  | .sine => BitVec.ofNat 8 (sineTable.getD p.toNat 0)
  | .triangle => BitVec.ofNat 8 (triangleEntry p.toNat)
  | .sawtooth => BitVec.ofNat 8 (sawtoothEntry p.toNat)

end Sys2Proof.Machine
end

