-- ==== Sys2Proof/Machine/Events.lean ====
section
/-! DEFINITION. The meanings of the two EVT operations: TICK (spec/42_tick_engine.md R180 to R186) and RESET
(70_reset_and_hazards.md R220). -/

namespace Sys2Proof.Machine

/-- An effective TICK (R182 to R186): look up at the phase the TICK starts with, scale, write the DAC (event and `dac_we`
strobe), then advance the phase. -/
def playSample (table : Table) (s : State) : State :=
  let o := scale (lutRead table s.blk.phase) s.blk.ampScale
  let s1 := emit (.dacWrite o) (setBlock { s.blk with out := o } s)
  let s2 := { s1 with obs := { s1.obs with dacWe := true } }
  setBlock { s2.blk with phase := advancePhase s2.blk.phase s2.blk.phaseStep } s2

/-- The tick engine (R180, R181): idle while TICK_EN = 0 or the active wave is Square, which has no table.
DESIGN CHOICE (log entry 19): two rules of the spec disagree and nothing in it rules between them. By 10_state.md R50 no TICK
has any effect until a continuous APPLY completes (FACADE); by R30, R151, R155, R180 and R181 one is effective as soon
as ENABLE_TICK has set TICK_EN. The latter are followed. -/
def takeTick (s : State) : State :=
  if s.blk.tickEn then
    match tableOf s.blk.activeWave with
    | none => s
    | some table => playSample table s
  else s

/-- TICK: enabled at any time after the first RESET (00_scope.md R12), in the middle of an APPLY too (20_memory.md R72);
refused before it (70_reset_and_hazards.md R224). -/
def execTick (s : State) : Host.Outcome State Fault Refusal :=
  if s.resetTaken then .next (takeTick s) else .refused .beforeReset

/-- RESET: enabled at any time (R220, R222, R224). -/
def execReset (s : State) : Host.Outcome State Fault Refusal := .next (takeReset s)

end Sys2Proof.Machine
end

