-- ==== Sys2Proof/Machine/Reads.lean ====
section
/-! DEFINITION. The meanings of the fifteen BUS_RD operations (spec/40_host_bus.md R101 to R115). Each returns the slot's
fields at their bit positions with every reserved bit 0 (30_encoding.md R85) and changes no state (R100). -/

namespace Sys2Proof.Machine

/-- RD_CTRL: "Every read of CTRL returns 0x00000000" (R101, 10_state.md R24). -/
def execRdCtrl (s : State) : Host.Outcome State Fault Refusal := hostAccept (answerRead 0x00000000#32) s

/-- RD_REQ_TARGET_HZ: the unclamped value last written (R102). -/
def execRdReqTargetHz (s : State) : Host.Outcome State Fault Refusal := hostAccept (answerRead s.blk.reqTarget) s

/-- RD_REQ_AMP: the raw pattern last written (R103). -/
def execRdReqAmp (s : State) : Host.Outcome State Fault Refusal := hostAccept (answerRead s.blk.reqAmp) s

/-- RD_REQ_WAVE (R104). -/
def execRdReqWave (s : State) : Host.Outcome State Fault Refusal := hostAccept (answerRead (waveWord s.blk.reqWave)) s

/-- RD_STATUS; "Reading does not clear SETUP_FAULT" (R105). -/
def execRdStatus (s : State) : Host.Outcome State Fault Refusal := hostAccept (answerRead (statusWord s.blk)) s

/-- RD_CUR_TARGET_HZ (R106). -/
def execRdCurTargetHz (s : State) : Host.Outcome State Fault Refusal := hostAccept (answerRead s.blk.curTarget) s

/-- RD_CUR_ACTUAL_HZ (R107). -/
def execRdCurActualHz (s : State) : Host.Outcome State Fault Refusal := hostAccept (answerRead s.blk.curActual) s

/-- RD_CUR_AMP (R108). -/
def execRdCurAmp (s : State) : Host.Outcome State Fault Refusal := hostAccept (answerRead (zext32 s.blk.curAmp)) s

/-- RD_CUR_WAVE (R109). -/
def execRdCurWave (s : State) : Host.Outcome State Fault Refusal := hostAccept (answerRead (waveWord s.blk.curWave)) s

/-- RD_PHASE (R110). -/
def execRdPhase (s : State) : Host.Outcome State Fault Refusal := hostAccept (answerRead (zext32 s.blk.phase)) s

/-- RD_PHASE_STEP (R111). -/
def execRdPhaseStep (s : State) : Host.Outcome State Fault Refusal := hostAccept (answerRead (zext32 s.blk.phaseStep)) s

/-- RD_OUT (R112). -/
def execRdOut (s : State) : Host.Outcome State Fault Refusal := hostAccept (answerRead (zext32 s.blk.out)) s

/-- RD_PULSE_FREQ (R113). -/
def execRdPulseFreq (s : State) : Host.Outcome State Fault Refusal := hostAccept (answerRead s.blk.pulseFreq) s

/-- RD_PULSE_CFG: constant in every state (R114, 10_state.md R42). -/
def execRdPulseCfg (s : State) : Host.Outcome State Fault Refusal := hostAccept (answerRead pulseCfgWord) s

/-- RD_RSVD, slots 14 and 15: reads as zero (R115, 10_state.md R43). -/
def execRdRsvd (_slot : SlotIx) (s : State) : Host.Outcome State Fault Refusal := hostAccept (answerRead 0x00000000#32) s

end Sys2Proof.Machine
end

