-- ==== Sys2Proof/Machine/Sequencer.lean ====
section
/-! DEFINITION. The configurator's sequencer: the micro-steps of an APPLY (spec/41_configurator.md R150 to R157). -/

namespace Sys2Proof.Machine

/-- APPLY start (R140, 40_host_bus.md R116): read the staging registers once, compute the job, begin at DISABLE. -/
def startApply (s : State) : State :=
  let job := configure s.blk.reqTarget s.blk.reqAmp s.blk.reqWave
  setSeq (.busy job .disable (fieldsOf job)) s

/-- Clear TICK_EN and emit TickStop, if it was 1 (R151). -/
def stopTick (s : State) : State :=
  if s.blk.tickEn then emit .tickStop (setBlock { s.blk with tickEn := false } s) else s

/-- Clear DAC_EN and emit DacDisable, if it was 1 (R151). -/
def disableDac (s : State) : State :=
  if s.blk.dacEn then emit .dacDisable (setBlock { s.blk with dacEn := false } s) else s

/-- Clear PULSE_EN and emit PulseDisarm, if it was 1 (R152). -/
def disarmPulse (s : State) : State :=
  if s.blk.pulseEn then emit .pulseDisarm (setBlock { s.blk with pulseEn := false } s) else s

/-- DISABLE: a square job stops the tick engine and then the DAC in one micro-step (R151), a continuous job disarms the
pulse peripheral (R152). -/
def seqDisable (job : Job) (pending : List FieldWrite) (s : State) : State :=
  setSeq (.busy job .fields pending)
    (match job.mode with
     | .square => disableDac (stopTick s)
     | .cont _ => disarmPulse s)

/-- The effect of one engine field write on the block (R154). -/
def FieldWrite.writeTo (f : FieldWrite) (b : Block) : Block :=
  match f with
  | .phaseStep step => { b with phaseStep := step }
  | .ampScale amp => { b with ampScale := amp }
  | .activeWave wave => { b with activeWave := wave }
  | .pulseFreq t => { b with pulseFreq := t }

/-- One engine field write; a write of `pulseFreq` also emits PulseFreq (R154). -/
def applyField (f : FieldWrite) (s : State) : State :=
  match f with
  | .pulseFreq t => emit (.pulseFreq t) (setBlock (f.writeTo s.blk) s)
  | .phaseStep _ => setBlock (f.writeTo s.blk) s
  | .ampScale _ => setBlock (f.writeTo s.blk) s
  | .activeWave _ => setBlock (f.writeTo s.blk) s

/-- The stage after FIELDS: ENABLE_DAC for a continuous job, ENABLE_PULSE for a square one (R153). -/
def enableStage (job : Job) : Stage :=
  match job.mode with
  | .cont _ => .enableDac
  | .square => .enablePulse

/-- Where the sequencer stands when `pending` is what FIELDS has left to write. The micro-step that makes the last write
also leaves the stage (log entry 7: R233 counts three FIELDS micro-steps for three fields). -/
def afterFields (job : Job) (pending : List FieldWrite) : Seq :=
  match pending with
  | [] => .busy job (enableStage job) []
  | f :: rest => .busy job .fields (f :: rest)

/-- FIELDS: pick any one pending write, make it and remove it (R153). The pick is a free draw, taken modulo how many
writes are pending, so that every one of them can be picked. -/
def seqFields (job : Job) (pending : List FieldWrite) (s : State) : State :=
  match pending with
  | [] => setSeq (afterFields job []) s
  | f :: rest =>
    let (k, s1) := drawPick s
    let at_ := k % (f :: rest).length
    setSeq (afterFields job ((f :: rest).eraseIdx at_)) (applyField ((f :: rest).getD at_ f) s1)

/-- ENABLE_DAC (R155). -/
def seqEnableDac (job : Job) (s : State) : State :=
  if s.blk.dacEn then toStage job .enableTick s
  else
    match requestSetup .dac s with
    | (.ok, s1) => toStage job .enableTick (emit .dacEnable (setBlock { s1.blk with dacEn := true } s1))
    | (.fail, s1) => toStage job .facade (raiseSetupFault .dac s1)

/-- ENABLE_TICK (R155). -/
def seqEnableTick (job : Job) (s : State) : State :=
  if s.blk.tickEn then toStage job .facade s
  else
    match requestSetup .tickTimer s with
    | (.ok, s1) => toStage job .facade (emit .tickStart (setBlock { s1.blk with tickEn := true } s1))
    | (.fail, s1) => toStage job .facade (raiseSetupFault .tickTimer s1)

/-- ENABLE_PULSE (R156). -/
def seqEnablePulse (job : Job) (s : State) : State :=
  if s.blk.pulseEn then toStage job .facade s
  else
    match requestSetup .pulse s with
    | (.ok, s1) => toStage job .facade (emit .pulseArm (setBlock { s1.blk with pulseEn := true } s1))
    | (.fail, s1) => toStage job .facade (raiseSetupFault .pulse s1)

/-- FACADE: the readback registers take the job's settings, CONFIGURED is set, and the APPLY completes (R157). -/
def seqFacade (job : Job) (s : State) : State :=
  setBlock
    { s.blk with
      curTarget := job.t
      curActual := job.actual
      curAmp := job.amp
      curWave := job.wave
      configured := true
      seq := .idle } s

/-- One micro-step of a pending APPLY (R150). With none pending the Sequencer is not enabled (00_scope.md R12), and
nothing happens. -/
def microStep (s : State) : State :=
  match s.blk.seq with
  | .idle => s
  | .busy job .disable pending => seqDisable job pending s
  | .busy job .fields pending => seqFields job pending s
  | .busy job .enableDac _ => seqEnableDac job s
  | .busy job .enableTick _ => seqEnableTick job s
  | .busy job .enablePulse _ => seqEnablePulse job s
  | .busy job .facade _ => seqFacade job s

end Sys2Proof.Machine
end

