-- ==== Sys2Proof/Machine/Writes.lean ====
section
/-! DEFINITION. The meanings of the six BUS_WR operations (spec/40_host_bus.md R116 to R121). -/

namespace Sys2Proof.Machine

/-- WR_CTRL: bit 0 starts an APPLY, and with bit 0 = 0 it has no effect (R116). The operation completes when `seq`
returns to Idle: until then `hostAccept` holds the host's next one (R100). -/
def execWrCtrl (apply : Bool) (s : State) : Host.Outcome State Fault Refusal :=
  hostAccept (fun s => if apply then startApply s else s) s

/-- WR_REQ_TARGET_HZ: every value is stored unchanged (R117). -/
def execWrReqTargetHz (wdata : Word) (s : State) : Host.Outcome State Fault Refusal :=
  hostAccept (fun s => setBlock { s.blk with reqTarget := wdata } s) s

/-- WR_REQ_AMP: every value is stored as written (R118). -/
def execWrReqAmp (wdata : Word) (s : State) : Host.Outcome State Fault Refusal :=
  hostAccept (fun s => setBlock { s.blk with reqAmp := wdata } s) s

/-- WR_REQ_WAVE: the wave of `wdata[1:0]`; the decoder has dropped `wdata[31:2]` (R119, 30_encoding.md R84). -/
def execWrReqWave (wave : Wave) (s : State) : Host.Outcome State Fault Refusal :=
  hostAccept (fun s => setBlock { s.blk with reqWave := wave } s) s

/-- WR_IGNORED_LO, slots 4..7: no effect; in particular it does not clear SETUP_FAULT (R120). -/
def execWrIgnoredLo (_slot : SlotIx) (s : State) : Host.Outcome State Fault Refusal := hostAccept (fun s => s) s

/-- WR_IGNORED_HI, slots 8..15: no effect (R121). -/
def execWrIgnoredHi (_slot : SlotIx) (s : State) : Host.Outcome State Fault Refusal := hostAccept (fun s => s) s

end Sys2Proof.Machine
end

