-- ==== Sys2Proof/Machine/Dispatch.lean ====
section
/-! DEFINITION. exec: one arm per operation, each one call of its meaning. -/

namespace Sys2Proof.Machine

def exec (i : Instr) (s : State) : Host.Outcome State Fault Refusal :=
  match i with
  | .rdCtrl => Sys2Proof.Machine.execRdCtrl s
  | .rdReqTargetHz => Sys2Proof.Machine.execRdReqTargetHz s
  | .rdReqAmp => Sys2Proof.Machine.execRdReqAmp s
  | .rdReqWave => Sys2Proof.Machine.execRdReqWave s
  | .rdStatus => Sys2Proof.Machine.execRdStatus s
  | .rdCurTargetHz => Sys2Proof.Machine.execRdCurTargetHz s
  | .rdCurActualHz => Sys2Proof.Machine.execRdCurActualHz s
  | .rdCurAmp => Sys2Proof.Machine.execRdCurAmp s
  | .rdCurWave => Sys2Proof.Machine.execRdCurWave s
  | .rdPhase => Sys2Proof.Machine.execRdPhase s
  | .rdPhaseStep => Sys2Proof.Machine.execRdPhaseStep s
  | .rdOut => Sys2Proof.Machine.execRdOut s
  | .rdPulseFreq => Sys2Proof.Machine.execRdPulseFreq s
  | .rdPulseCfg => Sys2Proof.Machine.execRdPulseCfg s
  | .rdRsvd slot => Sys2Proof.Machine.execRdRsvd slot s
  | .wrCtrl apply => Sys2Proof.Machine.execWrCtrl apply s
  | .wrReqTargetHz wdata => Sys2Proof.Machine.execWrReqTargetHz wdata s
  | .wrReqAmp wdata => Sys2Proof.Machine.execWrReqAmp wdata s
  | .wrReqWave wave => Sys2Proof.Machine.execWrReqWave wave s
  | .wrIgnoredLo slot => Sys2Proof.Machine.execWrIgnoredLo slot s
  | .wrIgnoredHi slot => Sys2Proof.Machine.execWrIgnoredHi slot s
  | .tick => Sys2Proof.Machine.execTick s
  | .reset => Sys2Proof.Machine.execReset s

end Sys2Proof.Machine
end

