-- ==== Sys2Proof/Machine/Schedule.lean ====
section
/-! DEFINITION. Which agent takes the next step (spec/00_scope.md R12, 20_memory.md R72, 40_host_bus.md R100,
60_exceptions.md R204), and the operation word it takes. -/

namespace Sys2Proof.Machine

/-- What the next step is: an operation, a Sequencer micro-step, no agent's step, or a refusal. A step begins at the
state it carries. -/
inductive Move where
  | rest (s : State)
  | operation (i : Instr) (s : State)
  | sequencer (s : State)
  | refuse (r : Refusal)
  deriving DecidableEq, Repr

/-- Offer an operation word as the very next turn. -/
def offer (w : OpWord) (s : State) : State :=
  { s with inp := { s.inp with turns := .operation w :: s.inp.turns } }

/-- Take the next turn off the list. -/
def dropTurn (s : State) : State :=
  { s with inp := { s.inp with turns := s.inp.turns.tail } }

/-- A host operation offered while `seq` is Busy waits (40_host_bus.md R100). Before the first RESET nothing waits: the
operation is refused (70_reset_and_hazards.md R224). -/
def holds (i : Instr) (s : State) : Bool :=
  i.isHost && s.resetTaken && !s.blk.seq.isIdle

/-- The refusal of a reserved word (30_encoding.md R87). -/
def refusalOf : DecodeError → Refusal
  | .reservedEvent idx => .reservedEvent idx
  | .reservedFormat idx => .reservedFormat idx

/-- The next step (log entries 1, 4 and 11).
* With no turn left the Sequencer goes on with a pending APPLY ("while `S.seq` is Busy it keeps taking steps",
  41_configurator.md R150); with none pending the block rests.
* A turn of the Sequencer is one micro-step. Before the first RESET no agent may take any step but RESET (R224).
* An offered word is decoded. A reserved one is refused (30_encoding.md R87). A host operation that must wait stays
  offered, and the Sequencer moves instead. Any other operation is taken. -/
def nextMove (s : State) : Move :=
  match s.inp.turns with
  | [] => if s.resetTaken && !s.blk.seq.isIdle then .sequencer (restPorts s) else .rest (restPorts s)
  | .sequencer :: _ => if s.resetTaken then .sequencer (dropTurn (restPorts s)) else .refuse .beforeReset
  | .operation w :: _ =>
    match decodeOp w with
    | .error e => .refuse (refusalOf e)
    | .ok i => if holds i s then .sequencer (restPorts s) else .operation i (dropTurn (restPorts s))

end Sys2Proof.Machine
end

