-- ==== Sys2Proof/Machine/Step.lean ====
section
/-! DEFINITION. One step of the machine: "a step of exactly one of" the agents (spec/00_scope.md R12). -/

namespace Sys2Proof.Machine

/-- One step: the move that `nextMove` gives. -/
def step (s : State) : Host.Outcome State Fault Refusal :=
  match nextMove s with
  | .rest s0 => .next s0
  | .sequencer s0 => .next (microStep s0)
  | .operation i s0 => exec i s0
  | .refuse r => .refused r

/-- The block fetches nothing: an agent offers an operation word (30_encoding.md R80). So the instruction whose bits are
`w` comes to run next by being offered as the next turn; everything else stays as it is (log entry 1). A host operation
offered while an APPLY is pending still waits for it (40_host_bus.md R100). -/
def State.withFetchWord (s : State) (nbits w : Nat) : State := offer (tableOpWord nbits w) s

end Sys2Proof.Machine
end

