-- ==== Sys2Proof/Machine/Assembly.lean ====
section
/-! DEFINITION. The notation for test programs: lines, their operation words, and the pseudo-operations (spec/30_encoding.md
R89, R90). It is no part of the block. -/

namespace Sys2Proof.Machine

/-- `<reg>`: a slot name of 10_state.md R23, or `S<n>` (R89). -/
inductive Reg where
  | ctrl
  | reqTargetHz
  | reqAmp
  | reqWave
  | status
  | curTargetHz
  | curActualHz
  | curAmp
  | curWave
  | phase
  | phaseStep
  | out
  | pulseFreq
  | pulseCfg
  | s (n : SlotIx)
  deriving DecidableEq, Repr

/-- The slot of a register (10_state.md R23). -/
def Reg.slot : Reg → SlotIx
  | .ctrl => 0
  | .reqTargetHz => 1
  | .reqAmp => 2
  | .reqWave => 3
  | .status => 4
  | .curTargetHz => 5
  | .curActualHz => 6
  | .curAmp => 7
  | .curWave => 8
  | .phase => 9
  | .phaseStep => 10
  | .out => 11
  | .pulseFreq => 12
  | .pulseCfg => 13
  | .s n => n

/-- `<value>` (R89): a decimal integer, a hexadecimal integer, a frequency literal `<num/den>Hz`, or a wave name. -/
inductive Value where
  | decimal (v : Int)
  | hex (v : Nat)
  | hz (num den : Nat)
  | wave (w : Wave)
  deriving DecidableEq, Repr

/-- The UQ24.8 code of the rational num/den Hz; none "when that is not an integer in 0..2^32−1" (R89, 00_scope.md R16).
DESIGN CHOICE (log entry 18): the example of 40_host_bus.md R113 writes the literal `25000000Hz`, whose code 6,400,000,000
is above 2^32−1; R89 is followed, and the example's line is an assembly error. -/
def q8Literal (num den : Nat) : Option Word :=
  if den ≠ 0 ∧ num * 256 % den = 0 ∧ num * 256 / den < 2 ^ 32 then some (BitVec.ofNat 32 (num * 256 / den)) else none

/-- The 32-bit data of a value (R89); none is an assembly error. DESIGN CHOICE (log entry 17): R89 does not say what a decimal
or hexadecimal integer that does not fit 32 bits gives; here its low 32 bits, and no assembly error. -/
def Value.encode : Value → Option Word
  | .decimal v => some (BitVec.ofInt 32 v)
  | .hex v => some (BitVec.ofNat 32 v)
  | .hz num den => q8Literal num den
  | .wave w => some ((waveCode w).zeroExtend 32)

/-- A line of a test program that is an operation (R89). -/
inductive Line where
  | rd (r : Reg)
  | wr (r : Reg) (v : Value)
  | tick
  | reset
  deriving DecidableEq, Repr

/-- The operation word `{op, data}` of a line; "For BUS_RD and EVT, `data` is 0" (R89). -/
def Line.assemble : Line → Option OpWord
  | .rd r => some (opWord (readOp r.slot) 0#32)
  | .wr r v => v.encode.map (opWord (writeOp r.slot))
  | .tick => some (opWord 0x20#6 0#32)
  | .reset => some (opWord 0x21#6 0#32)

/-- The pseudo-operation `APPLY <hz>, <amp>, <wave>` (R90), "the source's `apply(Settings)`". -/
def pseudoApply (hz amp wave : Value) : List Line :=
  [.wr .reqTargetHz hz, .wr .reqAmp amp, .wr .reqWave wave, .wr .ctrl (.decimal 1)]

/-- The pseudo-operation `CURRENT` (R90), "the source's `current() -> Settings`". -/
def pseudoCurrent : List Line :=
  [.rd .curTargetHz, .rd .curActualHz, .rd .curAmp, .rd .curWave]

/-- The pseudo-operation `TICKS <n>` (R90). -/
def pseudoTicks (n : Nat) : List Line := List.replicate n .tick

end Sys2Proof.Machine
end

