-- ==== Sys2Proof/Machine/Ports.lean ====
section
/-! DEFINITION. The output ports (spec/10_state.md R47): "Each is a function of state and has no state of its own". The
three whose value belongs to a step (`dac_we`, `setup_req`, `rdata`) are recorded with what is observed (log entry 6).
The OPEN parameters of 00_scope.md R11 have their place here: they describe what lies beyond the ports. -/

namespace Sys2Proof.Machine

/-- The ports of R47. -/
structure Ports where
  dacEn : Bool
  dacCode : Byte
  dacWe : Bool
  tickEn : Bool
  pulseEn : Bool
  pulseFreq : Word
  pulseDuty : BitVec 8
  pulseRes : BitVec 4
  setupReq : BitVec 2
  rdata : Option Word
  ready : Bool
  deriving DecidableEq, Repr

/-- What the block drives (R47). -/
def State.ports (s : State) : Ports where
  dacEn := s.blk.dacEn
  dacCode := s.blk.out
  dacWe := s.obs.dacWe
  tickEn := s.blk.tickEn
  pulseEn := s.blk.pulseEn
  pulseFreq := s.blk.pulseFreq
  pulseDuty := Config.pulseDuty
  pulseRes := Config.pulseRes
  setupReq := s.obs.setupReq
  rdata := s.obs.rdata
  ready := s.blk.seq.isIdle

/-- The pulse train on the pin, in Hz, while the pulse peripheral is armed: whatever `PULSE_REALIZE` makes of the
requested frequency (00_scope.md R11, 41_configurator.md R148). No block state depends on it. -/
def State.pulsePinHz (s : State) : Option ℚ :=
  if s.blk.pulseEn then some (Config.pulseRealize s.blk.pulseFreq) else none

/-- Byte k of a 32-bit word, counted from the least significant (00_scope.md R14). -/
def wordByte (v : Word) (k : Fin 4) : Byte := v.extractLsb' (8 * k.val) 8

/-- The lanes of a byte-addressed bus that carries a register word: byte k on lane `BUS_BYTE_ORDER` k (20_memory.md R67).
No rule observes it. -/
def busLanes (v : Word) : List (Fin 4 × Byte) :=
  (List.finRange 4).map fun k => (Config.busByteLane k, wordByte v k)

end Sys2Proof.Machine
end

