-- ==== Sys2Proof/Safety.lean ====
section
/-! DEFINITION. What the statements speak of: the fault state and the hold (spec/60_exceptions.md R201, R214), when a host
operation is accepted (40_host_bus.md R100), what a read gives, and the invariants of 41_configurator.md R159 and
R160, strengthened so that every step keeps them. -/

namespace Sys2Proof.Machine

/-- A fault state: `setupFault` = 1. "It is never a good final state" (R201). -/
def State.faulted (s : State) : Bool := s.blk.setupFault

/-- A good final state of a run: one that is no fault state (R201). -/
def State.goodFinal (s : State) : Bool := !s.faulted

/-- A hold (R214): the operation offered next is a host operation, and it must wait. -/
def State.holding (s : State) : Bool :=
  match s.inp.turns with
  | .operation w :: _ =>
    match decodeOp w with
    | .ok i => holds i s
    | .error _ => false
  | _ => false

/-- A host operation is accepted: a RESET has been taken and `seq` is Idle (R100). -/
structure State.Accepts (s : State) : Prop where
  reset_taken : s.resetTaken = true
  idle : s.blk.seq = .idle

/-- Every word with this operation code spells `i`, whatever its data: the data is ignored (30_encoding.md R88). -/
def SpelledBy (op : BitVec 6) (i : Instr) : Prop := ∀ data : Word, decodeOp (opWord op data) = .ok i

/-- `i` completes at `s` as a host read that returns `v`: the value stands on `rdata` and at the end of the read results,
and nothing else differs, no state element and no event ("No host read changes any state or records any output
event", R100). -/
def ReadGives (i : Instr) (s : State) (v : Word) : Prop :=
  exec i s = .next { s with obs := { s.obs with reads := s.obs.reads ++ [v], rdata := some v } }

/-- `i` completes at `s` as a host write that leaves the block in `b` and everything else as it was. -/
def WriteGives (i : Instr) (s : State) (b : Block) : Prop := exec i s = .next { s with blk := b }

/-- The next turn is the offered word `w`. -/
def State.Offered (s : State) (w : OpWord) : Prop := ∃ rest, s.inp.turns = .operation w :: rest

/-- A step takes RESET: the next turn offers a word that decodes to it. -/
def State.TakesReset (s : State) : Prop := ∃ w, s.Offered w ∧ decodeOp w = .ok .reset

/-- The field already holds what the write would give it (R154). -/
def FieldWrite.Holds (f : FieldWrite) (b : Block) : Prop := f.writeTo b = b

/-- The drivers of the other mode are off, as DISABLE leaves them (R151, R152). -/
def Job.DriversClear (job : Job) (b : Block) : Prop :=
  match job.mode with
  | .cont _ => b.pulseEn = false
  | .square => b.tickEn = false ∧ b.dacEn = false

/-- What is known of the block at each stage of an APPLY (R150 to R157). -/
def StageInv (job : Job) (stage : Stage) (pending : List FieldWrite) (b : Block) : Prop :=
  match stage with
  | .disable => pending = fieldsOf job
  | .fields => pending ≠ [] ∧ pending.Sublist (fieldsOf job) ∧ job.DriversClear b
  | .enableDac => pending = [] ∧ job.DriversClear b ∧ job.mode ≠ .square
  | .enableTick => pending = [] ∧ job.DriversClear b ∧ job.mode ≠ .square ∧ b.dacEn = true
  | .enablePulse => pending = [] ∧ job.DriversClear b ∧ job.mode = .square
  | .facade => pending = [] ∧ job.DriversClear b

/-- A pending APPLY carries a result of Configure (R149), stands at a stage that fits the block, and has made the field
writes that are no longer pending (R153). -/
def SeqInv (b : Block) : Prop :=
  match b.seq with
  | .idle => True
  | .busy job stage pending =>
    (∃ reqTarget reqAmp reqWave, job = configure reqTarget reqAmp reqWave) ∧
    StageInv job stage pending b ∧
    ∀ f ∈ fieldsOf job, f ∉ pending → f.Holds b

/-- The invariants of the block after RESET: (I1) to (I5) of R159, the agreement of engine and façade of R160, the
ranges of 10_state.md R29, R33 and R39, and what a pending APPLY has done so far. -/
structure Block.Inv (b : Block) : Prop where
  /-- (I1) -/
  tick_needs_dac : b.tickEn = true → b.dacEn = true
  /-- (I2) -/
  pulse_alone : b.pulseEn = true → b.tickEn = false ∧ b.dacEn = false
  /-- (I3) -/
  tick_plays : b.tickEn = true → b.activeWave ≠ .square ∧ 1 ≤ b.phaseStep.toNat
  /-- 10_state.md R39 -/
  step_le : b.phaseStep.toNat ≤ 64
  /-- (I4); the bounds of `phase` and `ampScale` are those of their type. -/
  out_le : b.out.toNat ≤ 254
  /-- (I5) and R160 -/
  facade_agrees : b.seq = .idle → b.configured = true →
    b.curAmp = b.ampScale ∧ b.curWave = b.activeWave ∧
    (b.curWave ≠ .square → b.phaseStep.toNat * Config.fs = b.curActual.toNat) ∧
    (b.curWave = .square → b.pulseFreq = b.curActual ∧ b.curActual = b.curTarget)
  /-- 10_state.md R29: "While it is 0, the CUR_* registers hold their reset values". -/
  unconfigured : b.configured = false →
    b.curTarget = 0 ∧ b.curActual = 0 ∧ b.curAmp = 0 ∧ b.curWave = .sine
  /-- 10_state.md R28, R33: FAULT_SRC is 0 exactly while no setup has failed. -/
  fault_source : b.setupFault = false ↔ b.faultSrc = 0
  sequencer : SeqInv b

/-- The invariant of the machine. Before the first RESET the elements are unspecified (10_state.md R51), so it says nothing
of them, only that nothing has been observed (70_reset_and_hazards.md R224); after it the history begins with that
RESET, and the block has its invariant. -/
structure State.Inv (s : State) : Prop where
  powered_up : s.resetTaken = false → s.PoweredUp
  history_begins : s.resetTaken = true → s.obs.history.head? = some .reset
  block : s.resetTaken = true → s.blk.Inv

/-- A SetupFail event (00_scope.md R13, 60_exceptions.md R200). -/
def Event.isSetupFail : Event → Bool
  | .setupFail _ => true
  | .dacWrite _ => false
  | .dacEnable => false
  | .dacDisable => false
  | .tickStart => false
  | .tickStop => false
  | .pulseFreq _ => false
  | .pulseArm => false
  | .pulseDisarm => false
  | .reset => false

/-- k micro-steps of the Sequencer with no other agent's step between them. -/
def microSteps : Nat → State → State
  | 0, s => s
  | k + 1, s => microSteps k (microStep s)

/-- The same state with the platform's answers and the picks drawn beforehand. -/
def State.withDraws (s : State) (picks : List Nat) (answers : List Config.Answer) : State :=
  { s with inp := { s.inp with picks := picks, answers := answers } }

/-- The machine takes the steps of one APPLY with no other agent between them: the host writes CTRL.APPLY = 1, and the
Sequencer runs to FACADE. Eight steps are enough (70_reset_and_hazards.md R233); a step after FACADE changes nothing but
the ports at rest. -/
def runApply (s : State) : Host.Outcome State Fault Refusal :=
  Host.Core.run Sys2Proof.core 8 (offer (encode (.wrCtrl true)) s)

end Sys2Proof.Machine
end

