-- ==== Sys2Proof/Certificates/Slice0/Obligations.lean ====
section
/-! DEFINITION. The statements for the provers. Each docstring names the rule of spec/ it formalises. -/

open Sys2Proof Sys2Proof.Machine

/-! ## Encoding -/

/-- 30_encoding.md R80 to R86: every well-formed operation, with every operand, decodes from its own word. -/
def Obligations.DecodeEncodeRoundTrip : Prop :=
  ∀ i : Instr, i.WellFormed → decodeOp (encode i) = .ok i

/-- The other direction (30_encoding.md R86, R88): a word that decodes spells a well-formed operation whose own word has the
same operation code. -/
def Obligations.DecodedWordKeepsOpcode : Prop :=
  ∀ (w : OpWord) (i : Instr), decodeOp w = .ok i → i.WellFormed ∧ opField (encode i) = opField w

/-- 30_encoding.md R84, R86, R88: what each operation code decodes to, for every data word. BUS_RD and EVT ignore the data,
CTRL takes bit 0, REQ_WAVE bits [1:0], slots 4..15 nothing. The wave codes are those of 10_state.md R27: 0 Sine, 1
Triangle, 2 Sawtooth, 3 Square. -/
def Obligations.OpcodeMapDecodes : Prop :=
  SpelledBy 0x00#6 .rdCtrl ∧ SpelledBy 0x01#6 .rdReqTargetHz ∧ SpelledBy 0x02#6 .rdReqAmp ∧
  SpelledBy 0x03#6 .rdReqWave ∧ SpelledBy 0x04#6 .rdStatus ∧ SpelledBy 0x05#6 .rdCurTargetHz ∧
  SpelledBy 0x06#6 .rdCurActualHz ∧ SpelledBy 0x07#6 .rdCurAmp ∧ SpelledBy 0x08#6 .rdCurWave ∧
  SpelledBy 0x09#6 .rdPhase ∧ SpelledBy 0x0A#6 .rdPhaseStep ∧ SpelledBy 0x0B#6 .rdOut ∧
  SpelledBy 0x0C#6 .rdPulseFreq ∧ SpelledBy 0x0D#6 .rdPulseCfg ∧
  SpelledBy 0x0E#6 (.rdRsvd 14#4) ∧ SpelledBy 0x0F#6 (.rdRsvd 15#4) ∧
  (∀ d : Word, decodeOp (opWord 0x10#6 d) = .ok (.wrCtrl (d.getLsbD 0))) ∧
  (∀ d : Word, decodeOp (opWord 0x11#6 d) = .ok (.wrReqTargetHz d)) ∧
  (∀ d : Word, decodeOp (opWord 0x12#6 d) = .ok (.wrReqAmp d)) ∧
  (∀ d : Word, d.extractLsb' 0 2 = 0#2 → decodeOp (opWord 0x13#6 d) = .ok (.wrReqWave .sine)) ∧
  (∀ d : Word, d.extractLsb' 0 2 = 1#2 → decodeOp (opWord 0x13#6 d) = .ok (.wrReqWave .triangle)) ∧
  (∀ d : Word, d.extractLsb' 0 2 = 2#2 → decodeOp (opWord 0x13#6 d) = .ok (.wrReqWave .sawtooth)) ∧
  (∀ d : Word, d.extractLsb' 0 2 = 3#2 → decodeOp (opWord 0x13#6 d) = .ok (.wrReqWave .square)) ∧
  (∀ (d : Word) (wave : Wave), waveCode wave = d.extractLsb' 0 2 → decodeOp (opWord 0x13#6 d) = .ok (.wrReqWave wave)) ∧
  (∀ slot : SlotIx, 4 ≤ slot.toNat → slot.toNat ≤ 7 → SpelledBy (0b01#2 ++ slot) (.wrIgnoredLo slot)) ∧
  (∀ slot : SlotIx, 8 ≤ slot.toNat → SpelledBy (0b01#2 ++ slot) (.wrIgnoredHi slot)) ∧
  SpelledBy 0x20#6 .tick ∧ SpelledBy 0x21#6 .reset

/-- 30_encoding.md R87: the operation codes 0x22..0x3F, and no others, spell no operation; a step offered one is refused,
and so is every run of at least one step. -/
def Obligations.ReservedCodesRefused : Prop :=
  ∀ w : OpWord, ((∃ e, decodeOp w = .error e) ↔ 0x22 ≤ (opField w).toNat) ∧
    (0x22 ≤ (opField w).toNat → ∀ s : State, s.Offered w →
      ∃ r, ∀ k, Host.Core.run Sys2Proof.core (k + 1) s = .refused r)

/-- Words written out bit by bit from the `encoding` strings of opcode_table.json and 95_test_vectors.md V-E. -/
def Obligations.WrittenWordsDecode : Prop :=
  decodeOp 0b00010011111111111111111111111111111111#38 = .ok .rdStatus ∧
  decodeOp 0b00111100000000000000000000000000000000#38 = .ok (.rdRsvd 15#4) ∧
  decodeOp 0b01000000000000000000000000000000000001#38 = .ok (.wrCtrl true) ∧
  decodeOp 0b01000100000000000000111110100000000000#38 = .ok (.wrReqTargetHz 256000#32) ∧
  decodeOp 0b01001111111111111111111111111111111100#38 = .ok (.wrReqWave .sine) ∧
  decodeOp 0b01001111111111111111111111111111111101#38 = .ok (.wrReqWave .triangle) ∧
  decodeOp 0b01001100000000000000000000000000000010#38 = .ok (.wrReqWave .sawtooth) ∧
  decodeOp 0b01001100000000000000000000000000000011#38 = .ok (.wrReqWave .square) ∧
  decodeOp 0b01010000010010001101000101011001111000#38 = .ok (.wrIgnoredLo 4#4) ∧
  decodeOp 0b01111100000000000000000000000000000000#38 = .ok (.wrIgnoredHi 15#4) ∧
  decodeOp 0b10000000000000000000000000000000000000#38 = .ok .tick ∧
  decodeOp 0b10000111011110101011011011111011101111#38 = .ok .reset ∧
  decodeOp 0b10001000000000000000000000000000000000#38 = .error (.reservedEvent 2#4)

/-- 30_encoding.md R89, R90: the four lines of `APPLY <hz>, <amp>, <wave>` assemble to words that decode to the three
staging writes and the APPLY trigger. For an amplitude that does not fit 32 bits the wrap is the model's choice (log entry
17). -/
def Obligations.AssembledApplyDecodes : Prop :=
  ∀ (hz : Word) (amp : Int) (wave : Wave),
    ((pseudoApply (.hex hz.toNat) (.decimal amp) (.wave wave)).map
      fun l => l.assemble.map decodeOp) =
    [some (.ok (.wrReqTargetHz hz)), some (.ok (.wrReqAmp (BitVec.ofInt 32 amp))),
     some (.ok (.wrReqWave wave)), some (.ok (.wrCtrl true))]

/-! ## Steps and agents -/

/-- 00_scope.md R12: a step offered a word that decodes to an operation that need not wait runs that operation, on the
state with the turn taken and the step's ports at rest. The list of turns and the ports at rest are the model's choice (log
entries 1 and 6). -/
def Obligations.StepRunsOfferedOperation : Prop :=
  ∀ (s : State) (w : OpWord) (rest : List Turn) (i : Instr),
    s.inp.turns = .operation w :: rest → decodeOp w = .ok i → holds i s = false →
    step s = exec i
      { s with
        inp := { s.inp with turns := rest }
        obs := { s.obs with dacWe := false, setupReq := 0, rdata := none } }

/-- 40_host_bus.md R100: a host operation offered while `seq` is Busy stays offered, with none of its effect, and the
Sequencer takes the step (the model's reading of the hold, log entry 4). That `dac_we`, `setup_req` and `rdata` are at rest
in that step is the model's choice (log entry 6). -/
def Obligations.StepHoldsHostOperation : Prop :=
  ∀ (s : State) (w : OpWord) (i : Instr) (job : Job) (stage : Stage) (pending : List FieldWrite),
    s.Offered w → decodeOp w = .ok i → i.isHost = true → s.resetTaken = true → s.blk.seq = .busy job stage pending →
    s.holding = true ∧ exec i s = .next s ∧
    ∃ t, step s = .next t ∧ t = microStep { s with obs := { s.obs with dacWe := false, setupReq := 0, rdata := none } } ∧
      t.inp.turns = s.inp.turns

/-- The words offered right after reset run as the operation they encode: the encoder, the decoder, the offer and the step
agree. That a program's operations are offered as turns, and that State.reset has empty inputs and ports at rest, is the
model's choice (log entries 1 and 10). -/
def Obligations.OfferedAfterResetRuns : Prop :=
  ∀ i : Instr, i.WellFormed →
    step (State.reset.withFetchWord 40 (encode i).toNat) = exec i State.reset

/-- 70_reset_and_hazards.md R224, 10_state.md R51: before the first RESET every operation other than RESET is refused, and so
is a turn of the Sequencer, for the whole run. A step that is not refused takes an offered RESET, or finds no turn and
leaves the block, what is observed and the inputs as they were (that such a step exists is log entry 11's reading). -/
def Obligations.OnlyResetBeforeReset : Prop :=
  ∀ s : State, s.resetTaken = false →
    (∀ i : Instr, i ≠ .reset → exec i s = .refused .beforeReset) ∧
    (∀ (w : OpWord) (i : Instr), s.Offered w → decodeOp w = .ok i → i ≠ .reset →
      ∀ k, Host.Core.run Sys2Proof.core (k + 1) s = .refused .beforeReset) ∧
    (∀ rest, s.inp.turns = .sequencer :: rest →
      ∀ k, Host.Core.run Sys2Proof.core (k + 1) s = .refused .beforeReset) ∧
    (∀ t : State, step s = .next t →
      (s.TakesReset ∧ t.resetTaken = true ∧ t.blk = Block.reset ∧ t.obs.history = s.obs.history ++ [.reset]) ∨
      (s.inp.turns = [] ∧ t.resetTaken = false ∧ t.blk = s.blk ∧ t.obs.history = s.obs.history ∧
        t.obs.reads = s.obs.reads ∧ t.inp = s.inp))

/-- 00_scope.md R13, R15: a step only appends to the output history and to the host read results. That RESET keeps the earlier
read results is the model's choice (log entry 6). -/
def Obligations.HistoryOnlyGrows : Prop :=
  ∀ s t : State, step s = .next t → s.obs.history <+: t.obs.history ∧ s.obs.reads <+: t.obs.reads

/-! ## Host reads -/

/-- 40_host_bus.md R102, R103, R104: reads of the staging registers. -/
def Obligations.StagingReadsReturnRequest : Prop :=
  SpelledBy 0x01#6 .rdReqTargetHz ∧ SpelledBy 0x02#6 .rdReqAmp ∧ SpelledBy 0x03#6 .rdReqWave ∧
  ∀ s : State, s.Accepts →
    ReadGives .rdReqTargetHz s s.blk.reqTarget ∧ ReadGives .rdReqAmp s s.blk.reqAmp ∧
    ReadGives .rdReqWave s (0#30 ++ waveCode s.blk.reqWave)

/-- 10_state.md R28, 40_host_bus.md R105: a read of STATUS returns each flag at its bit, zeros above, and clears nothing. -/
def Obligations.StatusReadPacksFlags : Prop :=
  SpelledBy 0x04#6 .rdStatus ∧
  ∀ s : State, s.Accepts →
    ∃ v : Word, ReadGives .rdStatus s v ∧
      v.getLsbD 0 = s.blk.configured ∧ v.getLsbD 1 = s.blk.tickEn ∧ v.getLsbD 2 = s.blk.dacEn ∧
      v.getLsbD 3 = s.blk.pulseEn ∧ v.getLsbD 4 = s.blk.setupFault ∧
      v.extractLsb' 5 2 = s.blk.faultSrc ∧ v.extractLsb' 7 25 = 0#25

/-- 40_host_bus.md R106 to R109: reads of the readback registers. -/
def Obligations.ReadbackReadsReturnSettings : Prop :=
  SpelledBy 0x05#6 .rdCurTargetHz ∧ SpelledBy 0x06#6 .rdCurActualHz ∧ SpelledBy 0x07#6 .rdCurAmp ∧
  SpelledBy 0x08#6 .rdCurWave ∧
  ∀ s : State, s.Accepts →
    ReadGives .rdCurTargetHz s s.blk.curTarget ∧ ReadGives .rdCurActualHz s s.blk.curActual ∧
    ReadGives .rdCurAmp s (0#24 ++ s.blk.curAmp) ∧ ReadGives .rdCurWave s (0#30 ++ waveCode s.blk.curWave)

/-- 40_host_bus.md R110 to R113: reads of the views of the engine. -/
def Obligations.EngineReadsReturnViews : Prop :=
  SpelledBy 0x09#6 .rdPhase ∧ SpelledBy 0x0A#6 .rdPhaseStep ∧ SpelledBy 0x0B#6 .rdOut ∧
  SpelledBy 0x0C#6 .rdPulseFreq ∧
  ∀ s : State, s.Accepts →
    ReadGives .rdPhase s (0#24 ++ s.blk.phase) ∧ ReadGives .rdPhaseStep s (0#24 ++ s.blk.phaseStep) ∧
    ReadGives .rdOut s (0#24 ++ s.blk.out) ∧ ReadGives .rdPulseFreq s s.blk.pulseFreq

/-- 40_host_bus.md R101, R114, R115: reads of CTRL, PULSE_CFG and the reserved slots return constants in every state that
accepts them. -/
def Obligations.ConstantReadsReturnConstants : Prop :=
  SpelledBy 0x00#6 .rdCtrl ∧ SpelledBy 0x0D#6 .rdPulseCfg ∧
  SpelledBy 0x0E#6 (.rdRsvd 14#4) ∧ SpelledBy 0x0F#6 (.rdRsvd 15#4) ∧
  ∀ s : State, s.Accepts →
    ReadGives .rdCtrl s 0x00000000#32 ∧ ReadGives .rdPulseCfg s 0x00000880#32 ∧
    ∀ slot : SlotIx, ReadGives (.rdRsvd slot) s 0x00000000#32

/-! ## Host writes -/

/-- 40_host_bus.md R117, R118, R119: a staging write stores its bits and changes nothing else. -/
def Obligations.StagingWritesStoreRequest : Prop :=
  (∀ d : Word, decodeOp (opWord 0x11#6 d) = .ok (.wrReqTargetHz d) ∧ decodeOp (opWord 0x12#6 d) = .ok (.wrReqAmp d) ∧
    ∀ wave : Wave, waveCode wave = d.extractLsb' 0 2 → decodeOp (opWord 0x13#6 d) = .ok (.wrReqWave wave)) ∧
  ∀ s : State, s.Accepts → ∀ (d : Word) (wave : Wave),
    WriteGives (.wrReqTargetHz d) s { s.blk with reqTarget := d } ∧
    WriteGives (.wrReqAmp d) s { s.blk with reqAmp := d } ∧
    WriteGives (.wrReqWave wave) s { s.blk with reqWave := wave }

/-- 40_host_bus.md R116, R120, R121: a write to a read-only or reserved slot, and a write of CTRL with bit 0 = 0, complete
with no effect at all. -/
def Obligations.IgnoredWritesChangeNothing : Prop :=
  (∀ slot : SlotIx, 4 ≤ slot.toNat → slot.toNat ≤ 7 → SpelledBy (0b01#2 ++ slot) (.wrIgnoredLo slot)) ∧
  (∀ slot : SlotIx, 8 ≤ slot.toNat → SpelledBy (0b01#2 ++ slot) (.wrIgnoredHi slot)) ∧
  ∀ s : State, s.Accepts →
    exec (.wrCtrl false) s = .next s ∧
    ∀ slot : SlotIx, exec (.wrIgnoredLo slot) s = .next s ∧ exec (.wrIgnoredHi slot) s = .next s

/-- 41_configurator.md R140, R150: WR_CTRL with APPLY = 1 makes `seq` Busy at DISABLE, with the job that Configure gives for
the staging registers and its field writes pending; nothing else changes. -/
def Obligations.ApplyStartsSequencer : Prop :=
  ∀ s : State, s.Accepts →
    WriteGives (.wrCtrl true) s
      { s.blk with
        seq := .busy (configure s.blk.reqTarget s.blk.reqAmp s.blk.reqWave) .disable
          (fieldsOf (configure s.blk.reqTarget s.blk.reqAmp s.blk.reqWave)) }

/-- 60_exceptions.md R208, 10_state.md R49: whatever state it is offered in, a host operation that is not refused changes
no element of the block but the staging registers and `seq`, records no event, and leaves the inputs alone. -/
def Obligations.HostOperationsWriteStagingOnly : Prop :=
  ∀ (i : Instr) (s t : State), i.isHost = true → exec i s = .next t →
    t.blk = { s.blk with
      reqTarget := t.blk.reqTarget, reqAmp := t.blk.reqAmp, reqWave := t.blk.reqWave, seq := t.blk.seq } ∧
    t.obs.history = s.obs.history ∧ t.inp = s.inp ∧ t.resetTaken = s.resetTaken

/-! ## Configure -/

/-- 41_configurator.md R141: the amplitude clamp, in every mode. -/
def Obligations.AmplitudeClamped : Prop :=
  ∀ (reqTarget reqAmp : Word) (wave : Wave),
    ((configure reqTarget reqAmp wave).amp.toNat : Int) =
      if reqAmp.toInt < 0 then 0 else if 255 < reqAmp.toInt then 255 else reqAmp.toInt

/-- 41_configurator.md R142 to R146: in a continuous mode the target is clamped to 1..20000 Hz, the step is the ideal step
t / FS rounded to the nearest integer, halves up, and clamped to 1..64, and the achieved frequency is FS · step,
all without a rounding error. -/
def Obligations.ContinuousConfigureExact : Prop :=
  ∀ (reqTarget reqAmp : Word) (wave : Wave), wave ≠ .square →
    ∃ step : Byte,
      (configure reqTarget reqAmp wave).mode = .cont step ∧ (configure reqTarget reqAmp wave).wave = wave ∧
      (configure reqTarget reqAmp wave).t.toNat = max 256 (min reqTarget.toNat 5120000) ∧
      (step.toNat : ℤ) = max 1 (min ⌊((configure reqTarget reqAmp wave).t.toNat : ℚ) / 20000 + 1 / 2⌋ 64) ∧
      (configure reqTarget reqAmp wave).actual.toNat = 20000 * step.toNat

/-- 41_configurator.md R163: the closed form of the quantizer for FS = 20000, on the clamped target, and the achieved
frequency it gives (as UQ24.8, so 5000 Hz is 1280000). -/
def Obligations.QuantizerClosedForm : Prop :=
  ∀ t : Nat, 256 ≤ t → t ≤ 5120000 →
    (t < 30000 → quantizeStep t = 1) ∧
    (∀ k : Nat, 2 ≤ k → k ≤ 63 → (quantizeStep t = k ↔ 20000 * k - 10000 ≤ t ∧ t ≤ 20000 * k + 9999)) ∧
    (1270000 ≤ t → quantizeStep t = 64 ∧ contActual (quantizeStep t) = 1280000) ∧
    (contActual (quantizeStep t) : ℤ) = 20000 * max 1 (min ⌊(t : ℚ) / 20000 + 1 / 2⌋ 64)

/-- 41_configurator.md R142, R147, R148: in square mode the target is clamped to 1..10,000,000 Hz, nothing is quantized,
and the achieved frequency is the target. -/
def Obligations.SquareConfigureUnquantized : Prop :=
  ∀ (reqTarget reqAmp : Word),
    (configure reqTarget reqAmp .square).mode = .square ∧ (configure reqTarget reqAmp .square).wave = .square ∧
    (configure reqTarget reqAmp .square).t.toNat = max 256 (min reqTarget.toNat 2560000000) ∧
    (configure reqTarget reqAmp .square).actual = (configure reqTarget reqAmp .square).t

/-- 41_configurator.md R166: the achieved frequencies of the continuous modes are exactly the 64 values FS·k/256 Hz. -/
def Obligations.ReachableFrequencies : Prop :=
  ∀ (wave : Wave) (reqAmp : Word), wave ≠ .square → ∀ actual : Word,
    (∃ reqTarget : Word, (configure reqTarget reqAmp wave).actual = actual) ↔
      ∃ k : Nat, 1 ≤ k ∧ k ≤ 64 ∧ actual.toNat = 20000 * k

/-! ## The sequencer's micro-steps -/

/-- 41_configurator.md R151: DISABLE of a square job clears TICK_EN and then DAC_EN, each with its event if it was 1, in one
micro-step; nothing else changes. -/
def Obligations.SquareDisableStopsTickThenDac : Prop :=
  ∀ (s : State) (job : Job) (pending : List FieldWrite),
    s.blk.seq = .busy job .disable pending → job.mode = .square →
    microStep s =
      { s with
        blk := { s.blk with tickEn := false, dacEn := false, seq := .busy job .fields pending }
        obs := { s.obs with
          history := s.obs.history ++ (if s.blk.tickEn then [.tickStop] else []) ++
            (if s.blk.dacEn then [.dacDisable] else []) } }

/-- 41_configurator.md R152: DISABLE of a continuous job clears PULSE_EN, with PulseDisarm if it was 1; TICK_EN stays as it
was, and nothing else changes. -/
def Obligations.ContinuousDisableDisarmsPulse : Prop :=
  ∀ (s : State) (job : Job) (pending : List FieldWrite) (step : Byte),
    s.blk.seq = .busy job .disable pending → job.mode = .cont step →
    microStep s =
      { s with
        blk := { s.blk with pulseEn := false, seq := .busy job .fields pending }
        obs := { s.obs with
          history := s.obs.history ++ (if s.blk.pulseEn then [.pulseDisarm] else []) } }

/-- 41_configurator.md R153, R154: the four field writes, each the write of one element; a FIELDS micro-step makes the pending
write it picks and removes it; a write of `pulseFreq` emits PulseFreq; any pending write can be the one picked; when none
is left the stage is the job's ENABLE stage (reached with the last write: log entry 7). -/
def Obligations.FieldsMicroStepMakesOneWrite : Prop :=
  (∀ (b : Block) (v : Byte) (wave : Wave) (t : Word),
    (FieldWrite.phaseStep v).writeTo b = { b with phaseStep := v } ∧
    (FieldWrite.ampScale v).writeTo b = { b with ampScale := v } ∧
    (FieldWrite.activeWave wave).writeTo b = { b with activeWave := wave } ∧
    (FieldWrite.pulseFreq t).writeTo b = { b with pulseFreq := t }) ∧
  ∀ (s : State) (job : Job) (pre post : List FieldWrite) (f : FieldWrite) (picks : List Nat),
    s.blk.seq = .busy job .fields (pre ++ f :: post) → s.inp.picks = pre.length :: picks →
    (microStep s).blk =
      { f.writeTo s.blk with
        seq := if pre ++ post = [] then
            .busy job (match job.mode with | .cont _ => .enableDac | .square => .enablePulse) []
          else .busy job .fields (pre ++ post) } ∧
    (microStep s).obs.history =
      s.obs.history ++ (match f with | .pulseFreq t => [.pulseFreq t] | _ => []) ∧
    (microStep s).inp = { s.inp with picks := picks }

/-- 41_configurator.md R153: every order of the field writes of a job is a run of the FIELDS stage, and all of them leave
the same block. That the third write already leaves the stage is log entry 7's reading of 70_reset_and_hazards.md R233. -/
def Obligations.EveryFieldOrderReachesSameBlock : Prop :=
  ∀ (s : State) (reqTarget reqAmp : Word) (reqWave : Wave) (order : List FieldWrite),
    order.Perm (fieldsOf (configure reqTarget reqAmp reqWave)) →
    s.blk.seq = .busy (configure reqTarget reqAmp reqWave) .fields (fieldsOf (configure reqTarget reqAmp reqWave)) →
    ∃ picks : List Nat, picks.length = 3 ∧
      (∀ n, n ≤ 3 → ∃ q, (microSteps n (s.withDraws picks [])).blk =
        { (order.take n).foldl (fun b f => f.writeTo b) s.blk with seq := q }) ∧
      (microSteps 3 (s.withDraws picks [])).blk =
        { (fieldsOf (configure reqTarget reqAmp reqWave)).foldl (fun b f => f.writeTo b) s.blk with
          seq := .busy (configure reqTarget reqAmp reqWave) (enableStage (configure reqTarget reqAmp reqWave)) [] }

/-- 41_configurator.md R155, 60_exceptions.md R200: ENABLE_DAC with DAC_EN = 0 asks the platform, on `setup_req` code 1. On ok
it sets DAC_EN and goes to ENABLE_TICK; on fail it raises SetupFault(DAC) and goes to FACADE. With DAC_EN = 1 it asks
nothing. -/
def Obligations.EnableDacAsksPlatform : Prop :=
  ∀ (s : State) (job : Job) (pending : List FieldWrite), s.blk.seq = .busy job .enableDac pending →
    (s.blk.dacEn = true →
      microStep s = { s with blk := { s.blk with seq := .busy job .enableTick [] } }) ∧
    (s.blk.dacEn = false → ∀ answers,
      (s.inp.answers = .ok :: answers →
        microStep s = { s with
          blk := { s.blk with dacEn := true, seq := .busy job .enableTick [] }
          obs := { s.obs with history := s.obs.history ++ [.dacEnable], setupReq := 1#2 }
          inp := { s.inp with answers := answers } }) ∧
      (s.inp.answers = .fail :: answers →
        microStep s = { s with
          blk := { s.blk with
            setupFault := true, faultSrc := if s.blk.setupFault then s.blk.faultSrc else 1#2
            seq := .busy job .facade [] }
          obs := { s.obs with history := s.obs.history ++ [.setupFail .dac], setupReq := 1#2 }
          inp := { s.inp with answers := answers } }))

/-- 41_configurator.md R155, 60_exceptions.md R200: ENABLE_TICK with TICK_EN = 0 asks the platform, on `setup_req` code 2. On
ok it sets TICK_EN; on fail it raises SetupFault(TICK). It goes to FACADE in every case. -/
def Obligations.EnableTickAsksPlatform : Prop :=
  ∀ (s : State) (job : Job) (pending : List FieldWrite), s.blk.seq = .busy job .enableTick pending →
    (s.blk.tickEn = true →
      microStep s = { s with blk := { s.blk with seq := .busy job .facade [] } }) ∧
    (s.blk.tickEn = false → ∀ answers,
      (s.inp.answers = .ok :: answers →
        microStep s = { s with
          blk := { s.blk with tickEn := true, seq := .busy job .facade [] }
          obs := { s.obs with history := s.obs.history ++ [.tickStart], setupReq := 2#2 }
          inp := { s.inp with answers := answers } }) ∧
      (s.inp.answers = .fail :: answers →
        microStep s = { s with
          blk := { s.blk with
            setupFault := true, faultSrc := if s.blk.setupFault then s.blk.faultSrc else 2#2
            seq := .busy job .facade [] }
          obs := { s.obs with history := s.obs.history ++ [.setupFail .tickTimer], setupReq := 2#2 }
          inp := { s.inp with answers := answers } }))

/-- 41_configurator.md R156, 60_exceptions.md R200: ENABLE_PULSE with PULSE_EN = 0 asks the platform, on `setup_req` code 3.
On ok it sets PULSE_EN; on fail it raises SetupFault(PULSE). It goes to FACADE in every case. -/
def Obligations.EnablePulseAsksPlatform : Prop :=
  ∀ (s : State) (job : Job) (pending : List FieldWrite), s.blk.seq = .busy job .enablePulse pending →
    (s.blk.pulseEn = true →
      microStep s = { s with blk := { s.blk with seq := .busy job .facade [] } }) ∧
    (s.blk.pulseEn = false → ∀ answers,
      (s.inp.answers = .ok :: answers →
        microStep s = { s with
          blk := { s.blk with pulseEn := true, seq := .busy job .facade [] }
          obs := { s.obs with history := s.obs.history ++ [.pulseArm], setupReq := 3#2 }
          inp := { s.inp with answers := answers } }) ∧
      (s.inp.answers = .fail :: answers →
        microStep s = { s with
          blk := { s.blk with
            setupFault := true, faultSrc := if s.blk.setupFault then s.blk.faultSrc else 3#2
            seq := .busy job .facade [] }
          obs := { s.obs with history := s.obs.history ++ [.setupFail .pulse], setupReq := 3#2 }
          inp := { s.inp with answers := answers } }))

/-- 60_exceptions.md R201: at every setup request of the Sequencer both answers are admitted, whatever was drawn before; the
answer decides between the enable and the fault, which leaves the peripheral disabled (R200). -/
def Obligations.BothAnswersAdmitted : Prop :=
  ∀ (s : State) (job : Job) (pending : List FieldWrite),
    (s.blk.seq = .busy job .enableDac pending → s.blk.dacEn = false →
      ((microStep s).blk.dacEn = true ∧ (microStep s).blk.setupFault = s.blk.setupFault ∨
        (microStep s).blk.dacEn = false ∧ (microStep s).blk.setupFault = true) ∧
      (microStep (s.withDraws s.inp.picks [.ok])).blk.dacEn = true ∧
      (microStep (s.withDraws s.inp.picks [.ok])).blk.setupFault = s.blk.setupFault ∧
      (microStep (s.withDraws s.inp.picks [.fail])).blk.dacEn = false ∧
      (microStep (s.withDraws s.inp.picks [.fail])).blk.setupFault = true) ∧
    (s.blk.seq = .busy job .enableTick pending → s.blk.tickEn = false →
      ((microStep s).blk.tickEn = true ∧ (microStep s).blk.setupFault = s.blk.setupFault ∨
        (microStep s).blk.tickEn = false ∧ (microStep s).blk.setupFault = true) ∧
      (microStep (s.withDraws s.inp.picks [.ok])).blk.tickEn = true ∧
      (microStep (s.withDraws s.inp.picks [.ok])).blk.setupFault = s.blk.setupFault ∧
      (microStep (s.withDraws s.inp.picks [.fail])).blk.tickEn = false ∧
      (microStep (s.withDraws s.inp.picks [.fail])).blk.setupFault = true) ∧
    (s.blk.seq = .busy job .enablePulse pending → s.blk.pulseEn = false →
      ((microStep s).blk.pulseEn = true ∧ (microStep s).blk.setupFault = s.blk.setupFault ∨
        (microStep s).blk.pulseEn = false ∧ (microStep s).blk.setupFault = true) ∧
      (microStep (s.withDraws s.inp.picks [.ok])).blk.pulseEn = true ∧
      (microStep (s.withDraws s.inp.picks [.ok])).blk.setupFault = s.blk.setupFault ∧
      (microStep (s.withDraws s.inp.picks [.fail])).blk.pulseEn = false ∧
      (microStep (s.withDraws s.inp.picks [.fail])).blk.setupFault = true)

/-- 41_configurator.md R157: FACADE gives the readback registers the job's settings, sets CONFIGURED, makes `seq` Idle, and
changes nothing else. -/
def Obligations.FacadeCompletesApply : Prop :=
  ∀ (s : State) (job : Job) (pending : List FieldWrite), s.blk.seq = .busy job .facade pending →
    microStep s = { s with blk := { s.blk with
      curTarget := job.t, curActual := job.actual, curAmp := job.amp, curWave := job.wave,
      configured := true, seq := .idle } }

/-- 41_configurator.md R162, 60_exceptions.md R208: no micro-step writes `phase`, `out` or a staging register, and none
records a host read or takes a turn of another agent. -/
def Obligations.SequencerLeavesPhaseAlone : Prop :=
  ∀ s : State,
    (microStep s).blk.phase = s.blk.phase ∧ (microStep s).blk.out = s.blk.out ∧
    (microStep s).blk.reqTarget = s.blk.reqTarget ∧ (microStep s).blk.reqAmp = s.blk.reqAmp ∧
    (microStep s).blk.reqWave = s.blk.reqWave ∧ (microStep s).obs.reads = s.obs.reads ∧
    (microStep s).obs.rdata = s.obs.rdata ∧ (microStep s).obs.dacWe = s.obs.dacWe ∧
    (microStep s).inp.turns = s.inp.turns ∧ (microStep s).resetTaken = s.resetTaken

/-! ## TICK and the tables -/

/-- 42_tick_engine.md R180, R182 to R185, 20_memory.md R60: an effective TICK writes the scaled entry of its wave's table, at
the phase it starts with, to `out`, with DacWrite and the strobe, and advances the phase; nothing else changes. That a TICK
between ENABLE_TICK and FACADE of the first continuous APPLY is one of these is log entry 19's choice. -/
def Obligations.EffectiveTickPlaysSample : Prop :=
  SpelledBy 0x20#6 .tick ∧
  ∀ (s : State) (table : Table), s.resetTaken = true → s.blk.tickEn = true →
    (s.blk.activeWave, table) ∈ [(Wave.sine, Table.sine), (Wave.triangle, Table.triangle), (Wave.sawtooth, Table.sawtooth)] →
    ∃ o p : Byte,
      o.toNat = (lutRead table s.blk.phase).toNat * s.blk.ampScale.toNat / 256 ∧
      p.toNat = (s.blk.phase.toNat + s.blk.phaseStep.toNat) % 256 ∧
      exec .tick s = .next { s with
        blk := { s.blk with out := o, phase := p }
        obs := { s.obs with history := s.obs.history ++ [.dacWrite o], dacWe := true } }

/-- 42_tick_engine.md R181: a TICK has no effect while TICK_EN = 0 or the active wave is Square. -/
def Obligations.IdleTickHasNoEffect : Prop :=
  ∀ s : State, s.resetTaken = true → (s.blk.tickEn = false ∨ s.blk.activeWave = .square) → exec .tick s = .next s

/-- 10_state.md R45: TICK reads only engine state. Two states that agree on `tickEn`, `activeWave`, `phase`, `phaseStep`,
`ampScale` and `out` play the same sample and reach the same phase, whatever the façade, the staging registers, the
fault flags and the sequencer hold. -/
def Obligations.TickReadsEngineStateOnly : Prop :=
  ∀ s1 s2 t1 t2 : State,
    s1.blk.tickEn = s2.blk.tickEn → s1.blk.activeWave = s2.blk.activeWave → s1.blk.phase = s2.blk.phase →
    s1.blk.phaseStep = s2.blk.phaseStep → s1.blk.ampScale = s2.blk.ampScale → s1.blk.out = s2.blk.out →
    exec .tick s1 = .next t1 → exec .tick s2 = .next t2 →
    t1.blk.out = t2.blk.out ∧ t1.blk.phase = t2.blk.phase ∧
    ∀ es, t1.obs.history = s1.obs.history ++ es → t2.obs.history = s2.obs.history ++ es

/-- 42_tick_engine.md R186: k effective TICKs from phase p0, with no other step between, play the entries p0, p0 + s, … and
leave the phase at (p0 + k·s) mod 256. That the TICKs come as turns of the state,
and are effective before FACADE of a first continuous APPLY, is the model's choice (log entries 1 and 19). -/
def Obligations.TicksPlayTableInOrder : Prop :=
  ∀ (k : Nat) (s : State) (table : Table) (rest : List Turn),
    s.resetTaken = true → s.blk.tickEn = true →
    (s.blk.activeWave, table) ∈ [(Wave.sine, Table.sine), (Wave.triangle, Table.triangle), (Wave.sawtooth, Table.sawtooth)] →
    s.inp.turns = List.replicate k (.operation (encode .tick)) ++ rest →
    ∃ t, Host.Core.run Sys2Proof.core k s = .next t ∧
      t.blk.phase.toNat = (s.blk.phase.toNat + k * s.blk.phaseStep.toNat) % 256 ∧
      t.blk = { s.blk with out := t.blk.out, phase := t.blk.phase } ∧
      t.inp.turns = rest ∧
      t.obs.history = s.obs.history ++ (List.range k).map fun j =>
        .dacWrite (BitVec.ofNat 8
          ((lutRead table (BitVec.ofNat 8 (s.blk.phase.toNat + j * s.blk.phaseStep.toNat))).toNat *
            s.blk.ampScale.toNat / 256))

/-- 42_tick_engine.md R188: with a constant step s the phase sequence repeats every 256 / gcd(256, s) TICKs and no sooner,
and in that time it runs through s / gcd(256, s) whole table periods. -/
def Obligations.PhasePeriod : Prop :=
  ∀ (p s : Byte) (k : Nat),
    ((fun q => advancePhase q s)^[k] p = p ↔ 256 / Nat.gcd 256 s.toNat ∣ k) ∧
    256 / Nat.gcd 256 s.toNat * s.toNat = 256 * (s.toNat / Nat.gcd 256 s.toNat)

/-- 42_tick_engine.md R183, R187: the scaler is floor(raw·amp/256); its bounds, its fixed points and its monotonicity. -/
def Obligations.ScalerProperties : Prop :=
  ∀ raw amp : Byte,
    (scale raw amp).toNat = raw.toNat * amp.toNat / 256 ∧
    (scale raw amp).toNat ≤ 254 ∧ ((scale raw amp).toNat = 254 ↔ raw = 255 ∧ amp = 255) ∧
    (scale raw amp).toNat ≤ raw.toNat ∧ (scale raw amp = raw ↔ raw = 0) ∧
    (1 ≤ raw.toNat → (scale raw 255).toNat = raw.toNat - 1) ∧
    scale raw 0 = 0 ∧ scale raw 128 = raw >>> 1 ∧
    (∀ amp' : Byte, amp.toNat ≤ amp'.toNat → (scale raw amp).toNat ≤ (scale raw amp').toNat) ∧
    (∀ raw' : Byte, raw.toNat ≤ raw'.toNat → (scale raw amp).toNat ≤ (scale raw' amp).toNat)

/-- 20_memory.md R63, R64: the triangle and sawtooth tables, by their formulas. -/
def Obligations.RampTables : Prop :=
  ∀ i : Byte,
    (lutRead .triangle i).toNat = (if i.toNat < 128 then 2 * i.toNat else 2 * (255 - i.toNat)) ∧
    (lutRead .sawtooth i) = i

/-- 20_memory.md R62: the checks a model can run on the sine table. -/
def Obligations.SineTableChecks : Prop :=
  ((List.range 256).map fun i => (lutRead .sine (BitVec.ofNat 8 i)).toNat).sum = 32641 ∧
  (∀ i : Byte, (lutRead .sine i = 0 ↔ 189 ≤ i.toNat ∧ i.toNat ≤ 195) ∧
    (lutRead .sine i = 255 ↔ 61 ≤ i.toNat ∧ i.toNat ≤ 67)) ∧
  (∀ i : Byte, 1 ≤ i.toNat → i.toNat ≤ 127 →
    lutRead .sine (128 - i) = lutRead .sine i ∧ (lutRead .sine (128 + i)).toNat = 255 - (lutRead .sine i).toNat) ∧
  lutRead .sine 0 = 128 ∧ lutRead .sine 128 = 128

/-- 20_memory.md R61: the sine table is `floor(127.5 + 127.5·sin(2π·i/256) + 0.5)` in exact real arithmetic, and away from
the two ties every entry lies at least 0.0055 from a rounding boundary. -/
def Obligations.SineTableIsRoundedSine : Prop :=
  ∀ i : Byte,
    ((lutRead .sine i).toNat : ℤ) = ⌊127.5 + 127.5 * Real.sin (2 * Real.pi * i.toNat / 256) + 0.5⌋ ∧
    (i ≠ 0 → i ≠ 128 → ∀ n : ℤ,
      0.0055 ≤ |127.5 + 127.5 * Real.sin (2 * Real.pi * i.toNat / 256) + 0.5 - n|)

/-! ## RESET and the fault flags -/

/-- 70_reset_and_hazards.md R220, R222: RESET, in any state, gives every element its reset value, abandons a pending APPLY,
withdraws a setup request, sets `resetTaken` and records Reset. That the inputs and the read results stay, and what
`rdata` and `dac_we` show, is the model's choice (log entries 1 and 6). -/
def Obligations.ResetRestoresEverything : Prop :=
  SpelledBy 0x21#6 .reset ∧
  ∀ s : State, exec .reset s = .next { s with
    blk :=
      { reqTarget := 0, reqAmp := 0, reqWave := .sine, curTarget := 0, curActual := 0, curAmp := 0, curWave := .sine,
        configured := false, phase := 0, phaseStep := 0, ampScale := 0, activeWave := .sine, tickEn := false,
        dacEn := false, pulseEn := false, pulseFreq := 0, out := 0, setupFault := false, faultSrc := 0, seq := .idle }
    resetTaken := true
    obs := { s.obs with history := s.obs.history ++ [.reset], dacWe := false, setupReq := 0, rdata := none } }

/-- 70_reset_and_hazards.md R221, 10_state.md R29, R33: a step that takes no RESET clears neither SETUP_FAULT nor
CONFIGURED, and once SETUP_FAULT is 1 it leaves FAULT_SRC as it was. -/
def Obligations.OnlyResetClearsFaultFlags : Prop :=
  ∀ s t : State, step s = .next t → ¬ s.TakesReset →
    (s.blk.setupFault = true → t.blk.setupFault = true ∧ t.blk.faultSrc = s.blk.faultSrc) ∧
    (s.blk.configured = true → t.blk.configured = true) ∧
    (s.resetTaken = true → t.resetTaken = true)

/-- 40_host_bus.md R122, 10_state.md R29: a step that takes no RESET changes the readback registers only by the FACADE
micro-step of a pending APPLY, which gives them that job's settings. -/
def Obligations.OnlyFacadeWritesReadback : Prop :=
  ∀ s t : State, step s = .next t → ¬ s.TakesReset →
    (t.blk.curTarget = s.blk.curTarget ∧ t.blk.curActual = s.blk.curActual ∧ t.blk.curAmp = s.blk.curAmp ∧
      t.blk.curWave = s.blk.curWave ∧ t.blk.configured = s.blk.configured) ∨
    ∃ job pending, s.blk.seq = .busy job .facade pending ∧ t.blk.seq = .idle ∧
      t.blk.curTarget = job.t ∧ t.blk.curActual = job.actual ∧ t.blk.curAmp = job.amp ∧
      t.blk.curWave = job.wave ∧ t.blk.configured = true

/-! ## Invariants and whole-machine rules -/

/-- The invariant holds right after RESET (70_reset_and_hazards.md R220; the model's own fields are log entry 10's choice). -/
def Obligations.ResetHasInvariant : Prop := State.reset.Inv

/-- 41_configurator.md R159, R160: every step keeps the invariant, from every state that has it. -/
def Obligations.StepKeepsInvariant : Prop :=
  ∀ s t : State, s.Inv → step s = .next t → t.Inv

/-- 41_configurator.md R158 (a): while PULSE_EN = 1 no TICK is effective. -/
def Obligations.NoEffectiveTickWhilePulseArmed : Prop :=
  ∀ s : State, s.Inv → s.resetTaken = true → s.blk.pulseEn = true → exec .tick s = .next s

/-- 41_configurator.md R158 (b): at a step that records PulseArm, DAC_EN = 0 and TICK_EN = 0, before and after it; at a step
that records DacEnable or TickStart, PULSE_EN = 0. -/
def Obligations.ModeSwitchOrdering : Prop :=
  ∀ (s t : State) (es : List Event), s.Inv → s.resetTaken = true → step s = .next t →
    t.obs.history = s.obs.history ++ es →
    (.pulseArm ∈ es → s.blk.dacEn = false ∧ s.blk.tickEn = false ∧ t.blk.dacEn = false ∧ t.blk.tickEn = false) ∧
    (.dacEnable ∈ es ∨ .tickStart ∈ es → s.blk.pulseEn = false ∧ t.blk.pulseEn = false)

/-- 41_configurator.md R150, R157, R162, 70_reset_and_hazards.md R233: an APPLY with no other agent's step between completes
within eight steps, whatever the platform answers and whatever order the fields are written in; the readback
registers then hold the job, the engine fields hold its settings, and `phase` and `out` are as they were. That the
Sequencer moves when no turn is left is log entry 1's choice, and the count of eight rests on log entry 7. -/
def Obligations.ApplyCompletes : Prop :=
  ∀ s : State, s.Accepts → s.inp.turns = [] →
    ∃ t, runApply s = .next t ∧ t.Accepts ∧
      t.blk.curTarget = (configure s.blk.reqTarget s.blk.reqAmp s.blk.reqWave).t ∧
      t.blk.curActual = (configure s.blk.reqTarget s.blk.reqAmp s.blk.reqWave).actual ∧
      t.blk.curAmp = (configure s.blk.reqTarget s.blk.reqAmp s.blk.reqWave).amp ∧
      t.blk.curWave = s.blk.reqWave ∧ t.blk.configured = true ∧
      (∀ f ∈ fieldsOf (configure s.blk.reqTarget s.blk.reqAmp s.blk.reqWave), f.Holds t.blk) ∧
      t.blk.ampScale = (configure s.blk.reqTarget s.blk.reqAmp s.blk.reqWave).amp ∧ t.blk.activeWave = s.blk.reqWave ∧
      (∀ step, (configure s.blk.reqTarget s.blk.reqAmp s.blk.reqWave).mode = .cont step → t.blk.phaseStep = step) ∧
      (s.blk.reqWave = .square → t.blk.pulseFreq = (configure s.blk.reqTarget s.blk.reqAmp s.blk.reqWave).t) ∧
      (s.blk.reqWave = .square → t.blk.phaseStep = s.blk.phaseStep) ∧
      (s.blk.reqWave ≠ .square → t.blk.pulseFreq = s.blk.pulseFreq) ∧
      t.blk.phase = s.blk.phase ∧ t.blk.out = s.blk.out ∧
      t.blk.reqTarget = s.blk.reqTarget ∧ t.blk.reqAmp = s.blk.reqAmp ∧ t.blk.reqWave = s.blk.reqWave ∧
      t.inp.turns = []

/-- 60_exceptions.md R204, R205: one APPLY with no other agent's step between raises at most one fault, and if it raises none
its output is enabled: the DAC and the tick engine in a continuous mode, the pulse peripheral in Square, and not the
other one. That the Sequencer moves when no turn is left is log entry 1's choice. `ApplyAmongTicks` says the same of an
APPLY with TICKs between its micro-steps. -/
def Obligations.ApplyRaisesAtMostOneFault : Prop :=
  ∀ s : State, s.Accepts → s.inp.turns = [] →
    ∃ t es, runApply s = .next t ∧ t.obs.history = s.obs.history ++ es ∧
      es.countP Event.isSetupFail ≤ 1 ∧
      (es.countP Event.isSetupFail = 1 → t.blk.setupFault = true) ∧
      (es.countP Event.isSetupFail = 0 →
        t.blk.setupFault = s.blk.setupFault ∧ t.blk.faultSrc = s.blk.faultSrc ∧
        (s.blk.reqWave ≠ .square → t.blk.dacEn = true ∧ t.blk.tickEn = true ∧ t.blk.pulseEn = false) ∧
        (s.blk.reqWave = .square → t.blk.dacEn = false ∧ t.blk.tickEn = false ∧ t.blk.pulseEn = true))

/-- 41_configurator.md R161: a second APPLY with the same staging values leaves the same CUR_* values; and if the first one
left its output enabled, the second leaves the whole block as it found it. Both run with no other agent's step between:
that the Sequencer then moves is log entry 1's choice. -/
def Obligations.ApplyIsIdempotent : Prop :=
  ∀ s t : State, s.Accepts → s.inp.turns = [] → runApply s = .next t →
    ∃ u, runApply t = .next u ∧
      u.blk.curTarget = t.blk.curTarget ∧ u.blk.curActual = t.blk.curActual ∧
      u.blk.curAmp = t.blk.curAmp ∧ u.blk.curWave = t.blk.curWave ∧
      (s.blk.reqWave ≠ .square → t.blk.dacEn = true → t.blk.tickEn = true → u.blk = t.blk) ∧
      (s.blk.reqWave = .square → t.blk.pulseEn = true → u.blk = t.blk)

/-- 20_memory.md R72 (b), 41_configurator.md R150, R157, 60_exceptions.md R204: with any number of TICKs between its
micro-steps an APPLY completes all the same once the Sequencer has had seven turns. The readback registers hold the job, it
raises at most one fault, and if it raises none its output is enabled and the other mode's is not. That the agents' steps
come as a list of turns is the model's choice (log entry 1), and the count of seven rests on log entry 7. -/
def Obligations.ApplyAmongTicks : Prop :=
  ∀ (s : State) (turns : List Turn), s.Accepts → s.inp.turns = .operation (encode (.wrCtrl true)) :: turns →
    (∀ u ∈ turns, u = .sequencer ∨ u = .operation (encode .tick)) → 7 ≤ turns.count .sequencer →
    ∃ t es, Host.Core.run Sys2Proof.core (turns.length + 1) s = .next t ∧ t.Accepts ∧ t.inp.turns = [] ∧
      t.blk.curTarget = (configure s.blk.reqTarget s.blk.reqAmp s.blk.reqWave).t ∧
      t.blk.curActual = (configure s.blk.reqTarget s.blk.reqAmp s.blk.reqWave).actual ∧
      t.blk.curAmp = (configure s.blk.reqTarget s.blk.reqAmp s.blk.reqWave).amp ∧
      t.blk.curWave = s.blk.reqWave ∧ t.blk.configured = true ∧
      t.blk.reqTarget = s.blk.reqTarget ∧ t.blk.reqAmp = s.blk.reqAmp ∧ t.blk.reqWave = s.blk.reqWave ∧
      t.obs.history = s.obs.history ++ es ∧
      es.countP Event.isSetupFail ≤ 1 ∧
      (es.countP Event.isSetupFail = 1 → t.blk.setupFault = true) ∧
      (es.countP Event.isSetupFail = 0 →
        t.blk.setupFault = s.blk.setupFault ∧ t.blk.faultSrc = s.blk.faultSrc ∧
        (s.blk.reqWave ≠ .square → t.blk.dacEn = true ∧ t.blk.tickEn = true ∧ t.blk.pulseEn = false) ∧
        (s.blk.reqWave = .square → t.blk.dacEn = false ∧ t.blk.tickEn = false ∧ t.blk.pulseEn = true))

/-! ## Power-up -/

/-- 70_reset_and_hazards.md R224: at power-up no RESET has been taken and nothing has been observed, and the invariant holds,
whatever the elements hold and whatever is offered. -/
def Obligations.PowerUpHasInvariant : Prop :=
  ∀ (b : Block) (i : Inputs), (State.powerUp b i).PoweredUp ∧ (State.powerUp b i).Inv

/-- 70_reset_and_hazards.md R224: from power-up, until the first RESET, no step records an event, answers a read or changes an
element, and the first event recorded is Reset. -/
def Obligations.NothingObservedBeforeReset : Prop :=
  ∀ (k : Nat) (s t : State), s.PoweredUp → Host.Core.run Sys2Proof.core k s = .next t →
    (t.PoweredUp ∧ t.blk = s.blk) ∨ (t.resetTaken = true ∧ t.obs.history.head? = some .reset)

/-- 70_reset_and_hazards.md R220, R224: the first RESET after power-up, with nothing else offered, leaves State.reset, whatever
the elements held. That State.reset has empty inputs is the model's choice (log entry 10). -/
def Obligations.FirstResetGivesResetState : Prop :=
  ∀ (b : Block) (w : OpWord), decodeOp w = .ok .reset →
    step (State.powerUp b { Inputs.none with turns := [.operation w] }) = .next State.reset

/-! ## When the ticks start -/

/-- 10_state.md R30, R49, 41_configurator.md R155: TICK_EN becomes 1 only at an ENABLE_TICK micro-step whose setup request is
answered ok, which records TickStart and leaves FACADE as the next micro-step. So from RESET (TICK_EN = 0) no TICK has any
effect until a continuous APPLY has come that far. The words of 10_state.md R50 have TICKs without effect one micro-step
longer, until FACADE: that they end at ENABLE_TICK is the model's choice (log entry 19). -/
def Obligations.TicksStartAtEnableTick : Prop :=
  (∀ s : State, s.resetTaken = true → s.blk.tickEn = false → exec .tick s = .next s) ∧
  ∀ s t : State, step s = .next t → s.blk.tickEn = false → t.blk.tickEn = true →
    ∃ job pending, s.blk.seq = .busy job .enableTick pending ∧ t.blk = { s.blk with
      tickEn := true, seq := .busy job .facade [] } ∧ t.obs.history = s.obs.history ++ [.tickStart]
end

