-- ==== Sys2Proof/Laws/Decode.lean ====
section
/-! SUPPORT. The fields of an operation word, and what the decoder does with a word given by its fields. -/

namespace Sys2Proof

@[simp] theorem opField_opWord (op : BitVec 6) (data : Word) : opField (opWord op data) = op := by
  unfold opField opWord
  ext i hi
  simp
  grind

@[simp] theorem dataField_opWord (op : BitVec 6) (data : Word) : dataField (opWord op data) = data := by
  unfold dataField opWord
  ext i hi
  simp
  grind

/-- A word is made of its two fields. -/
theorem opWord_fields (w : OpWord) : opWord (opField w) (dataField w) = w := by
  unfold opField dataField opWord
  ext i hi
  simp
  grind

/-- The decoder by the fields of the word. -/
theorem decodeOp_opWord (op : BitVec 6) (data : Word) :
    decodeOp (opWord op data) =
      if op.extractLsb' 4 2 = 0#2 then .ok (decodeRead (op.extractLsb' 0 4))
      else if op.extractLsb' 4 2 = 1#2 then .ok (decodeWrite (op.extractLsb' 0 4) data)
      else if op.extractLsb' 4 2 = 2#2 then decodeEvent (op.extractLsb' 0 4)
      else .error (.reservedFormat (op.extractLsb' 0 4)) := by
  simp [decodeOp, kindField, idxField]

@[simp] theorem waveOfCode_waveCode (w : Wave) : waveOfCode (waveCode w) = w := by cases w <;> rfl

@[simp] theorem waveCode_waveOfCode (c : BitVec 2) : waveCode (waveOfCode c) = c := by revert c; decide

end Sys2Proof
end

