-- ==== Sys2Proof/Laws/State.lean ====
section
/-! SUPPORT. One lemma per field per update of the state, so that no later proof unfolds a record update. -/

namespace Sys2Proof.Machine

variable (s : State) (b : Block) (q : Seq) (e : Event) (job : Job) (stage : Stage) (v : Word) (w : OpWord)
  (which : Peripheral)

/-! ## emit -/

@[simp] theorem emit_blk : (emit e s).blk = s.blk := rfl
@[simp] theorem emit_resetTaken : (emit e s).resetTaken = s.resetTaken := rfl
@[simp] theorem emit_inp : (emit e s).inp = s.inp := rfl
@[simp] theorem emit_history : (emit e s).obs.history = s.obs.history ++ [e] := rfl
@[simp] theorem emit_reads : (emit e s).obs.reads = s.obs.reads := rfl
@[simp] theorem emit_dacWe : (emit e s).obs.dacWe = s.obs.dacWe := rfl
@[simp] theorem emit_setupReq : (emit e s).obs.setupReq = s.obs.setupReq := rfl
@[simp] theorem emit_rdata : (emit e s).obs.rdata = s.obs.rdata := rfl

/-! ## setBlock, setSeq, toStage -/

@[simp] theorem setBlock_blk : (setBlock b s).blk = b := rfl
@[simp] theorem setBlock_resetTaken : (setBlock b s).resetTaken = s.resetTaken := rfl
@[simp] theorem setBlock_obs : (setBlock b s).obs = s.obs := rfl
@[simp] theorem setBlock_inp : (setBlock b s).inp = s.inp := rfl
@[simp] theorem setSeq_blk : (setSeq q s).blk = { s.blk with seq := q } := rfl
@[simp] theorem setSeq_resetTaken : (setSeq q s).resetTaken = s.resetTaken := rfl
@[simp] theorem setSeq_obs : (setSeq q s).obs = s.obs := rfl
@[simp] theorem setSeq_inp : (setSeq q s).inp = s.inp := rfl
@[simp] theorem toStage_blk : (toStage job stage s).blk = { s.blk with seq := .busy job stage [] } := rfl
@[simp] theorem toStage_resetTaken : (toStage job stage s).resetTaken = s.resetTaken := rfl
@[simp] theorem toStage_obs : (toStage job stage s).obs = s.obs := rfl
@[simp] theorem toStage_inp : (toStage job stage s).inp = s.inp := rfl

/-! ## restPorts, dropTurn, offer, answerRead -/

@[simp] theorem restPorts_blk : (restPorts s).blk = s.blk := rfl
@[simp] theorem restPorts_resetTaken : (restPorts s).resetTaken = s.resetTaken := rfl
@[simp] theorem restPorts_inp : (restPorts s).inp = s.inp := rfl
@[simp] theorem restPorts_history : (restPorts s).obs.history = s.obs.history := rfl
@[simp] theorem restPorts_reads : (restPorts s).obs.reads = s.obs.reads := rfl
@[simp] theorem restPorts_dacWe : (restPorts s).obs.dacWe = false := rfl
@[simp] theorem restPorts_setupReq : (restPorts s).obs.setupReq = 0 := rfl
@[simp] theorem restPorts_rdata : (restPorts s).obs.rdata = none := rfl
@[simp] theorem dropTurn_blk : (dropTurn s).blk = s.blk := rfl
@[simp] theorem dropTurn_resetTaken : (dropTurn s).resetTaken = s.resetTaken := rfl
@[simp] theorem dropTurn_obs : (dropTurn s).obs = s.obs := rfl
@[simp] theorem dropTurn_turns : (dropTurn s).inp.turns = s.inp.turns.tail := rfl
@[simp] theorem dropTurn_picks : (dropTurn s).inp.picks = s.inp.picks := rfl
@[simp] theorem dropTurn_answers : (dropTurn s).inp.answers = s.inp.answers := rfl
@[simp] theorem dropTurn_draws : (dropTurn s).inp.draws = s.inp.draws := rfl
@[simp] theorem offer_blk : (offer w s).blk = s.blk := rfl
@[simp] theorem offer_resetTaken : (offer w s).resetTaken = s.resetTaken := rfl
@[simp] theorem offer_obs : (offer w s).obs = s.obs := rfl
@[simp] theorem offer_turns : (offer w s).inp.turns = .operation w :: s.inp.turns := rfl
@[simp] theorem answerRead_blk : (answerRead v s).blk = s.blk := rfl
@[simp] theorem answerRead_resetTaken : (answerRead v s).resetTaken = s.resetTaken := rfl
@[simp] theorem answerRead_inp : (answerRead v s).inp = s.inp := rfl
@[simp] theorem answerRead_history : (answerRead v s).obs.history = s.obs.history := rfl
@[simp] theorem answerRead_reads : (answerRead v s).obs.reads = s.obs.reads ++ [v] := rfl
@[simp] theorem answerRead_rdata : (answerRead v s).obs.rdata = some v := rfl

/-! ## raiseSetupFault, takeReset, startApply -/

@[simp] theorem raiseSetupFault_blk : (raiseSetupFault which s).blk = faultFlags which s.blk := rfl
@[simp] theorem raiseSetupFault_resetTaken : (raiseSetupFault which s).resetTaken = s.resetTaken := rfl
@[simp] theorem raiseSetupFault_inp : (raiseSetupFault which s).inp = s.inp := rfl
@[simp] theorem raiseSetupFault_history :
    (raiseSetupFault which s).obs.history = s.obs.history ++ [.setupFail which] := rfl
@[simp] theorem raiseSetupFault_reads : (raiseSetupFault which s).obs.reads = s.obs.reads := rfl
@[simp] theorem takeReset_blk : (takeReset s).blk = Block.reset := rfl
@[simp] theorem takeReset_resetTaken : (takeReset s).resetTaken = true := rfl
@[simp] theorem takeReset_inp : (takeReset s).inp = s.inp := rfl
@[simp] theorem takeReset_history : (takeReset s).obs.history = s.obs.history ++ [.reset] := rfl
@[simp] theorem takeReset_reads : (takeReset s).obs.reads = s.obs.reads := rfl
@[simp] theorem startApply_resetTaken : (startApply s).resetTaken = s.resetTaken := rfl
@[simp] theorem startApply_obs : (startApply s).obs = s.obs := rfl
@[simp] theorem startApply_inp : (startApply s).inp = s.inp := rfl

/-! ## powerUp -/

variable (i : Inputs)

@[simp] theorem powerUp_blk : (State.powerUp b i).blk = b := rfl
@[simp] theorem powerUp_resetTaken : (State.powerUp b i).resetTaken = false := rfl
@[simp] theorem powerUp_history : (State.powerUp b i).obs.history = [] := rfl
@[simp] theorem powerUp_reads : (State.powerUp b i).obs.reads = [] := rfl
@[simp] theorem powerUp_inp : (State.powerUp b i).inp = i := rfl

/-- Only what is observed and whether RESET was taken decide whether the machine is still as powered up. -/
theorem State.PoweredUp.congr {s t : State} (h : s.PoweredUp) (hr : t.resetTaken = s.resetTaken)
    (hh : t.obs.history = s.obs.history) (hd : t.obs.reads = s.obs.reads) : t.PoweredUp :=
  ⟨hr.trans h.1, hh.trans h.2.1, hd.trans h.2.2⟩

/-! ## isIdle -/

@[simp] theorem Seq.isIdle_idle : Seq.isIdle .idle = true := rfl
@[simp] theorem Seq.isIdle_busy (pending : List FieldWrite) : Seq.isIdle (.busy job stage pending) = false := rfl

theorem Seq.isIdle_iff : q.isIdle = true ↔ q = .idle := by
  cases q <;> simp

end Sys2Proof.Machine
end

