-- ==== Sys2Proof/Laws/Ops.lean ====
section
/-! SUPPORT. For each shared operation one lemma that says all it can do. -/

namespace Sys2Proof.Machine

/-! ## Free draws -/

/-- A pick is the next one of the inputs, or a free value; it touches the inputs alone, and not the turns. -/
theorem drawPick_spec (s : State) :
    (drawPick s).2.blk = s.blk ∧ (drawPick s).2.resetTaken = s.resetTaken ∧ (drawPick s).2.obs = s.obs ∧
    (drawPick s).2.inp.turns = s.inp.turns ∧ (drawPick s).2.inp.answers = s.inp.answers ∧
    ((∃ rest, s.inp.picks = (drawPick s).1 :: rest ∧
        (drawPick s).2.inp = { s.inp with picks := rest }) ∨
      (s.inp.picks = [] ∧ (drawPick s).1 = Config.fieldPick s.inp.draws ∧
        (drawPick s).2.inp = { s.inp with draws := s.inp.draws + 1 })) := by
  unfold drawPick
  split <;> simp_all

/-- An answer is the next one of the inputs, or a free value; it touches the inputs alone, and not the turns. -/
theorem drawAnswer_spec (s : State) :
    (drawAnswer s).2.blk = s.blk ∧ (drawAnswer s).2.resetTaken = s.resetTaken ∧ (drawAnswer s).2.obs = s.obs ∧
    (drawAnswer s).2.inp.turns = s.inp.turns ∧ (drawAnswer s).2.inp.picks = s.inp.picks ∧
    ((∃ rest, s.inp.answers = (drawAnswer s).1 :: rest ∧
        (drawAnswer s).2.inp = { s.inp with answers := rest }) ∨
      (s.inp.answers = [] ∧ (drawAnswer s).1 = Config.setupAnswer s.inp.draws ∧
        (drawAnswer s).2.inp = { s.inp with draws := s.inp.draws + 1 })) := by
  unfold drawAnswer
  split <;> simp_all

/-- A setup request shows the peripheral on `setup_req`, and touches nothing else but the inputs. -/
theorem requestSetup_spec (which : Peripheral) (s : State) :
    (requestSetup which s).2.blk = s.blk ∧ (requestSetup which s).2.resetTaken = s.resetTaken ∧
    (requestSetup which s).2.obs = { s.obs with setupReq := peripheralCode which } ∧
    (requestSetup which s).2.inp.turns = s.inp.turns ∧ (requestSetup which s).2.inp.picks = s.inp.picks := by
  obtain ⟨h1, h2, h3, h4, h5, -⟩ :=
    drawAnswer_spec { s with obs := { s.obs with setupReq := peripheralCode which } }
  exact ⟨h1, h2, h3, h4, h5⟩

/-! ## Host bus -/

/-- What accepting a host operation can do: its effect when `seq` is Idle, nothing while it is Busy, and both only
after a RESET. -/
theorem hostAccept_next {effect : State → State} {s t : State} (h : hostAccept effect s = .next t) :
    s.resetTaken = true ∧
    ((s.blk.seq = .idle ∧ t = effect s) ∨ ((∃ job stage pending, s.blk.seq = .busy job stage pending) ∧ t = s)) := by
  unfold hostAccept at h
  split at h
  · refine ⟨‹_›, ?_⟩
    split at h
    · exact .inl ⟨(Seq.isIdle_iff _).1 ‹_›, by simpa using h.symm⟩
    · refine .inr ⟨?_, by simpa using h.symm⟩
      match hq : s.blk.seq with
      | .idle => simp [hq] at *
      | .busy job stage pending => exact ⟨_, _, _, rfl⟩
  · cases h

/-- A host operation that is accepted has its effect. -/
theorem hostAccept_idle {effect : State → State} {s : State} (hr : s.resetTaken = true) (hq : s.blk.seq = .idle) :
    hostAccept effect s = .next (effect s) := by
  simp [hostAccept, hr, hq]

/-- A host operation that must wait has none. -/
theorem hostAccept_busy {effect : State → State} {s : State} {job : Job} {stage : Stage} {pending : List FieldWrite}
    (hr : s.resetTaken = true) (hq : s.blk.seq = .busy job stage pending) :
    hostAccept effect s = .next s := by
  simp [hostAccept, hr, hq]

/-- Before the first RESET a host operation is refused. -/
theorem hostAccept_unreset {effect : State → State} {s : State} (hr : s.resetTaken = false) :
    hostAccept effect s = .refused .beforeReset := by
  simp [hostAccept, hr]

/-! ## TICK -/

/-- What a TICK can do: play a sample, or nothing. -/
theorem takeTick_cases (s : State) :
    (∃ table, s.blk.tickEn = true ∧ tableOf s.blk.activeWave = some table ∧ takeTick s = playSample table s) ∨
    ((s.blk.tickEn = false ∨ s.blk.activeWave = .square) ∧ takeTick s = s) := by
  unfold takeTick
  cases hT : s.blk.tickEn <;> cases hW : s.blk.activeWave <;> simp [tableOf]

/-- Every effect of an effective TICK. -/
theorem playSample_eq (table : Table) (s : State) :
    playSample table s =
      { s with
        blk := { s.blk with
          out := scale (lutRead table s.blk.phase) s.blk.ampScale
          phase := advancePhase s.blk.phase s.blk.phaseStep }
        obs := { s.obs with
          history := s.obs.history ++ [.dacWrite (scale (lutRead table s.blk.phase) s.blk.ampScale)]
          dacWe := true } } := rfl

/-! ## exec -/

/-- Every operation that is no TICK and no RESET is a host operation: its meaning is one effect, accepted by
`hostAccept`, that answers a read, stores a staging register, starts an APPLY or does nothing. -/
theorem exec_host {i : Instr} (h : i.isHost = true) (s : State) :
    ∃ effect : State → State, exec i s = hostAccept effect s ∧
      ((∃ v, effect s = answerRead v s) ∨ effect s = s ∨ effect s = startApply s ∨
        (∃ d, effect s = setBlock { s.blk with reqTarget := d } s) ∨
        (∃ d, effect s = setBlock { s.blk with reqAmp := d } s) ∨
        ∃ w, effect s = setBlock { s.blk with reqWave := w } s) := by
  cases i with
  | tick => simp [Instr.isHost, Instr.issuer, Instr.format] at h
  | reset => simp [Instr.isHost, Instr.issuer, Instr.format] at h
  | wrCtrl apply =>
    cases apply
    · exact ⟨_, rfl, .inr (.inl rfl)⟩
    · exact ⟨_, rfl, .inr (.inr (.inl rfl))⟩
  | wrReqTargetHz d => exact ⟨_, rfl, .inr (.inr (.inr (.inl ⟨d, rfl⟩)))⟩
  | wrReqAmp d => exact ⟨_, rfl, .inr (.inr (.inr (.inr (.inl ⟨d, rfl⟩))))⟩
  | wrReqWave w => exact ⟨_, rfl, .inr (.inr (.inr (.inr (.inr ⟨w, rfl⟩))))⟩
  | wrIgnoredLo slot => exact ⟨fun s => s, rfl, .inr (.inl rfl)⟩
  | wrIgnoredHi slot => exact ⟨fun s => s, rfl, .inr (.inl rfl)⟩
  | _ => exact ⟨_, rfl, .inl ⟨_, rfl⟩⟩

/-- An operation that is no host operation is TICK or RESET. -/
theorem eq_tick_or_reset {i : Instr} (h : i.isHost = false) : i = .tick ∨ i = .reset := by
  cases i <;> first | exact .inl rfl | exact .inr rfl | exact absurd h (by simp [Instr.isHost, Instr.issuer, Instr.format])

/-- What an operation that gives a next state can do. -/
theorem exec_cases {i : Instr} {s t : State} (h : exec i s = .next t) :
    (i = .reset ∧ t = takeReset s) ∨
    (s.resetTaken = true ∧
      ((i = .tick ∧ t = takeTick s) ∨
       (i.isHost = true ∧ (∃ job stage pending, s.blk.seq = .busy job stage pending) ∧ t = s) ∨
       (i.isHost = true ∧ s.blk.seq = .idle ∧
        ((∃ v, t = answerRead v s) ∨ t = s ∨ t = startApply s ∨
          (∃ d, t = setBlock { s.blk with reqTarget := d } s) ∨
          (∃ d, t = setBlock { s.blk with reqAmp := d } s) ∨
          ∃ w, t = setBlock { s.blk with reqWave := w } s)))) := by
  cases hi : i.isHost
  · rcases eq_tick_or_reset hi with rfl | rfl
    · refine .inr ?_
      simp only [exec, execTick] at h
      split at h
      · exact ⟨‹_›, .inl ⟨rfl, by simpa using h.symm⟩⟩
      · cases h
    · exact .inl ⟨rfl, by simpa [exec, execReset] using h.symm⟩
  · obtain ⟨effect, he, hc⟩ := exec_host hi s
    rw [he] at h
    obtain ⟨hr, ⟨hq, rfl⟩ | ⟨hq, rfl⟩⟩ := hostAccept_next h
    · exact .inr ⟨hr, .inr (.inr ⟨rfl, hq, hc⟩)⟩
    · exact .inr ⟨hr, .inr (.inl ⟨rfl, hq, rfl⟩)⟩

/-! ## One step -/

/-- What a step that gives a next state can be: nothing to do, a micro-step of the Sequencer after RESET, or the
operation that the next turn offers. -/
theorem step_cases {s t : State} (h : step s = .next t) :
    (s.inp.turns = [] ∧ (s.resetTaken = false ∨ s.blk.seq = .idle) ∧ t = restPorts s) ∨
    (s.resetTaken = true ∧ ∃ s0, (s0 = restPorts s ∨ s0 = dropTurn (restPorts s)) ∧ t = microStep s0) ∨
    (∃ w rest i, s.inp.turns = .operation w :: rest ∧ decodeOp w = .ok i ∧ holds i s = false ∧
      exec i (dropTurn (restPorts s)) = .next t) := by
  unfold step nextMove at h
  match hT : s.inp.turns with
  | [] =>
    rw [hT] at h
    by_cases hc : (s.resetTaken && !s.blk.seq.isIdle) = true
    · rw [if_pos hc] at h
      simp only [Bool.and_eq_true] at hc
      exact .inr (.inl ⟨hc.1, _, .inl rfl, by simpa using h.symm⟩)
    · rw [if_neg hc] at h
      refine .inl ⟨rfl, ?_, by simpa using h.symm⟩
      rw [← Seq.isIdle_iff]
      cases hr : s.resetTaken <;> simp_all
  | .sequencer :: rest =>
    rw [hT] at h
    by_cases hr : s.resetTaken = true
    · simp only [hr, if_true] at h
      exact .inr (.inl ⟨hr, _, .inr rfl, by simpa using h.symm⟩)
    · simp [hr] at h
  | .operation w :: rest =>
    rw [hT] at h
    match hd : decodeOp w with
    | .error e => simp [hd] at h
    | .ok i =>
      simp only [hd] at h
      by_cases hh : holds i s = true
      · simp only [hh, if_true] at h
        refine .inr (.inl ⟨?_, _, .inl rfl, by simpa using h.symm⟩)
        simp only [holds, Bool.and_eq_true] at hh
        exact hh.1.2
      · simp only [hh] at h
        exact .inr (.inr ⟨w, rest, i, rfl, hd, by simpa using hh, h⟩)

end Sys2Proof.Machine
end

