-- ==== Sys2Proof/Laws/PerInstr.lean ====
section
/-! SUPPORT. A statement about every operation, made per constructor: its word lies in its row of spec/opcode_table.json,
by the row's own match and mask. -/

namespace Sys2Proof.Laws

/-- The `mask` of the operation's row (30_encoding.md R86). -/
def rowMask : Instr → OpWord
  | .rdRsvd _ => 0x3E00000000#38
  | .wrIgnoredLo _ => 0x3C00000000#38
  | .wrIgnoredHi _ => 0x3800000000#38
  | _ => 0x3F00000000#38

/-- The `match` of the operation's row (30_encoding.md R86). -/
def rowMatch : Instr → OpWord
  | .rdCtrl => 0x0000000000#38
  | .rdReqTargetHz => 0x0100000000#38
  | .rdReqAmp => 0x0200000000#38
  | .rdReqWave => 0x0300000000#38
  | .rdStatus => 0x0400000000#38
  | .rdCurTargetHz => 0x0500000000#38
  | .rdCurActualHz => 0x0600000000#38
  | .rdCurAmp => 0x0700000000#38
  | .rdCurWave => 0x0800000000#38
  | .rdPhase => 0x0900000000#38
  | .rdPhaseStep => 0x0A00000000#38
  | .rdOut => 0x0B00000000#38
  | .rdPulseFreq => 0x0C00000000#38
  | .rdPulseCfg => 0x0D00000000#38
  | .rdRsvd _ => 0x0E00000000#38
  | .wrCtrl _ => 0x1000000000#38
  | .wrReqTargetHz _ => 0x1100000000#38
  | .wrReqAmp _ => 0x1200000000#38
  | .wrReqWave _ => 0x1300000000#38
  | .wrIgnoredLo _ => 0x1400000000#38
  | .wrIgnoredHi _ => 0x1800000000#38
  | .tick => 0x2000000000#38
  | .reset => 0x2100000000#38

/-- The word of a well-formed operation matches its row of the opcode table. -/
def InRow.Statement (i : Instr) : Prop := i.WellFormed → encode i &&& rowMask i = rowMatch i

/-- A mask that covers only operation-code bits sees only the operation code. -/
theorem opWord_and (op m : BitVec 6) (data : Word) : opWord op data &&& (m ++ 0#32) = (op &&& m) ++ 0#32 := by
  change (op ++ data : BitVec (6 + 32)) &&& (m ++ 0#32) = (op &&& m) ++ 0#32
  ext i hi
  simp only [BitVec.getElem_and, BitVec.getElem_append]
  split <;> simp

theorem InRow.rdCtrl : InRow.Statement .rdCtrl := fun _ => by decide
theorem InRow.rdReqTargetHz : InRow.Statement .rdReqTargetHz := fun _ => by decide
theorem InRow.rdReqAmp : InRow.Statement .rdReqAmp := fun _ => by decide
theorem InRow.rdReqWave : InRow.Statement .rdReqWave := fun _ => by decide
theorem InRow.rdStatus : InRow.Statement .rdStatus := fun _ => by decide
theorem InRow.rdCurTargetHz : InRow.Statement .rdCurTargetHz := fun _ => by decide
theorem InRow.rdCurActualHz : InRow.Statement .rdCurActualHz := fun _ => by decide
theorem InRow.rdCurAmp : InRow.Statement .rdCurAmp := fun _ => by decide
theorem InRow.rdCurWave : InRow.Statement .rdCurWave := fun _ => by decide
theorem InRow.rdPhase : InRow.Statement .rdPhase := fun _ => by decide
theorem InRow.rdPhaseStep : InRow.Statement .rdPhaseStep := fun _ => by decide
theorem InRow.rdOut : InRow.Statement .rdOut := fun _ => by decide
theorem InRow.rdPulseFreq : InRow.Statement .rdPulseFreq := fun _ => by decide
theorem InRow.rdPulseCfg : InRow.Statement .rdPulseCfg := fun _ => by decide
theorem InRow.rdRsvd (slot : SlotIx) : InRow.Statement (.rdRsvd slot) := by
  revert slot; unfold InRow.Statement; decide
theorem InRow.wrCtrl (apply : Bool) : InRow.Statement (.wrCtrl apply) := by
  cases apply <;> exact fun _ => by decide
theorem InRow.wrReqTargetHz (wdata : Word) : InRow.Statement (.wrReqTargetHz wdata) :=
  fun _ => (opWord_and 0x11#6 0x3F#6 wdata).trans rfl
theorem InRow.wrReqAmp (wdata : Word) : InRow.Statement (.wrReqAmp wdata) :=
  fun _ => (opWord_and 0x12#6 0x3F#6 wdata).trans rfl
theorem InRow.wrReqWave (wave : Wave) : InRow.Statement (.wrReqWave wave) := by
  cases wave <;> exact fun _ => by decide
theorem InRow.wrIgnoredLo (slot : SlotIx) : InRow.Statement (.wrIgnoredLo slot) := by
  revert slot; unfold InRow.Statement; decide
theorem InRow.wrIgnoredHi (slot : SlotIx) : InRow.Statement (.wrIgnoredHi slot) := by
  revert slot; unfold InRow.Statement; decide
theorem InRow.tick : InRow.Statement .tick := fun _ => by decide
theorem InRow.reset : InRow.Statement .reset := fun _ => by decide

end Sys2Proof.Laws
end

