-- ==== Sys2Proof/Laws/Sequencer.lean ====
section
/-! SUPPORT. What a micro-step of the Sequencer can do, stage by stage, and what Configure can give. -/

namespace Sys2Proof.Machine

/-! ## Configure -/

theorem clampNat_bounds {v lo hi : Nat} (h : lo ≤ hi) : lo ≤ clampNat v lo hi ∧ clampNat v lo hi ≤ hi := by
  unfold clampNat
  split <;> try split
  all_goals omega

theorem quantizeStep_bounds (t : Nat) : 1 ≤ quantizeStep t ∧ quantizeStep t ≤ 64 :=
  clampNat_bounds (by decide)

theorem contTarget_bounds (r : Word) : 256 ≤ contTarget r ∧ contTarget r ≤ 5120000 :=
  clampNat_bounds (by decide)

theorem squareTarget_bounds (r : Word) : 256 ≤ squareTarget r ∧ squareTarget r ≤ 2560000000 :=
  clampNat_bounds (by decide)

/-- Every field of a continuous job. -/
theorem configure_cont (r a : Word) {wave : Wave} (h : wave ≠ .square) :
    configure r a wave =
      { mode := .cont (BitVec.ofNat 8 (quantizeStep (contTarget r)))
        wave := wave
        amp := ampClamp a
        t := BitVec.ofNat 32 (contTarget r)
        actual := BitVec.ofNat 32 (contActual (quantizeStep (contTarget r))) } := by
  cases wave <;> first | rfl | exact absurd rfl h

/-- Every field of a square job. -/
theorem configure_square (r a : Word) :
    configure r a .square =
      { mode := .square
        wave := .square
        amp := ampClamp a
        t := BitVec.ofNat 32 (squareTarget r)
        actual := BitVec.ofNat 32 (squareTarget r) } := rfl

@[simp] theorem configure_wave (r a : Word) (wave : Wave) : (configure r a wave).wave = wave := by
  cases wave <;> rfl

@[simp] theorem configure_amp (r a : Word) (wave : Wave) : (configure r a wave).amp = ampClamp a := by
  cases wave <;> rfl

/-- A job is a square job exactly when the requested wave is Square. -/
theorem configure_mode_square_iff (r a : Word) (wave : Wave) :
    (configure r a wave).mode = .square ↔ wave = .square := by
  cases wave <;> simp [configure]

/-- The step of a continuous job, as a number. -/
theorem configure_step_toNat (r : Word) :
    (BitVec.ofNat 8 (quantizeStep (contTarget r))).toNat = quantizeStep (contTarget r) := by
  have := quantizeStep_bounds (contTarget r)
  simp only [BitVec.toNat_ofNat]
  omega

/-- The achieved frequency of a continuous job, as a number. -/
theorem configure_actual_toNat (r : Word) :
    (BitVec.ofNat 32 (contActual (quantizeStep (contTarget r)))).toNat =
      Config.fs * quantizeStep (contTarget r) := by
  have := quantizeStep_bounds (contTarget r)
  simp only [BitVec.toNat_ofNat, contActual, Config.fs]
  omega

/-! ## The effect of one field write -/

@[simp] theorem writeTo_seq (f : FieldWrite) (b : Block) : (f.writeTo b).seq = b.seq := by cases f <;> rfl

@[simp] theorem writeTo_tickEn (f : FieldWrite) (b : Block) : (f.writeTo b).tickEn = b.tickEn := by cases f <;> rfl
@[simp] theorem writeTo_dacEn (f : FieldWrite) (b : Block) : (f.writeTo b).dacEn = b.dacEn := by cases f <;> rfl
@[simp] theorem writeTo_pulseEn (f : FieldWrite) (b : Block) : (f.writeTo b).pulseEn = b.pulseEn := by cases f <;> rfl
@[simp] theorem writeTo_configured (f : FieldWrite) (b : Block) : (f.writeTo b).configured = b.configured := by cases f <;> rfl
@[simp] theorem writeTo_curTarget (f : FieldWrite) (b : Block) : (f.writeTo b).curTarget = b.curTarget := by cases f <;> rfl
@[simp] theorem writeTo_curActual (f : FieldWrite) (b : Block) : (f.writeTo b).curActual = b.curActual := by cases f <;> rfl
@[simp] theorem writeTo_curAmp (f : FieldWrite) (b : Block) : (f.writeTo b).curAmp = b.curAmp := by cases f <;> rfl
@[simp] theorem writeTo_curWave (f : FieldWrite) (b : Block) : (f.writeTo b).curWave = b.curWave := by cases f <;> rfl
@[simp] theorem writeTo_reqTarget (f : FieldWrite) (b : Block) : (f.writeTo b).reqTarget = b.reqTarget := by cases f <;> rfl
@[simp] theorem writeTo_reqAmp (f : FieldWrite) (b : Block) : (f.writeTo b).reqAmp = b.reqAmp := by cases f <;> rfl
@[simp] theorem writeTo_reqWave (f : FieldWrite) (b : Block) : (f.writeTo b).reqWave = b.reqWave := by cases f <;> rfl
@[simp] theorem writeTo_phase (f : FieldWrite) (b : Block) : (f.writeTo b).phase = b.phase := by cases f <;> rfl
@[simp] theorem writeTo_out (f : FieldWrite) (b : Block) : (f.writeTo b).out = b.out := by cases f <;> rfl
@[simp] theorem writeTo_setupFault (f : FieldWrite) (b : Block) : (f.writeTo b).setupFault = b.setupFault := by cases f <;> rfl
@[simp] theorem writeTo_faultSrc (f : FieldWrite) (b : Block) : (f.writeTo b).faultSrc = b.faultSrc := by cases f <;> rfl

@[simp] theorem applyField_blk (f : FieldWrite) (s : State) : (applyField f s).blk = f.writeTo s.blk := by
  cases f <;> rfl

@[simp] theorem applyField_resetTaken (f : FieldWrite) (s : State) : (applyField f s).resetTaken = s.resetTaken := by
  cases f <;> rfl

@[simp] theorem applyField_inp (f : FieldWrite) (s : State) : (applyField f s).inp = s.inp := by cases f <;> rfl

/-- A field write records an event only when it writes `pulseFreq`. -/
theorem applyField_obs (f : FieldWrite) (s : State) :
    (applyField f s).obs =
      { s.obs with history := s.obs.history ++ (match f with | .pulseFreq t => [.pulseFreq t] | _ => []) } := by
  cases f <;> simp [applyField, emit, setBlock]

/-! ## DISABLE -/

/-- Every effect of `stopTick`. -/
theorem stopTick_eq (s : State) :
    stopTick s =
      { s with
        blk := { s.blk with tickEn := false }
        obs := { s.obs with history := s.obs.history ++ (if s.blk.tickEn then [.tickStop] else []) } } := by
  obtain ⟨b, r, o, i⟩ := s
  cases h : b.tickEn <;> cases b <;> simp_all [stopTick, emit, setBlock]

/-- Every effect of `disableDac`. -/
theorem disableDac_eq (s : State) :
    disableDac s =
      { s with
        blk := { s.blk with dacEn := false }
        obs := { s.obs with history := s.obs.history ++ (if s.blk.dacEn then [.dacDisable] else []) } } := by
  obtain ⟨b, r, o, i⟩ := s
  cases h : b.dacEn <;> cases b <;> simp_all [disableDac, emit, setBlock]

/-- Every effect of `disarmPulse`. -/
theorem disarmPulse_eq (s : State) :
    disarmPulse s =
      { s with
        blk := { s.blk with pulseEn := false }
        obs := { s.obs with history := s.obs.history ++ (if s.blk.pulseEn then [.pulseDisarm] else []) } } := by
  obtain ⟨b, r, o, i⟩ := s
  cases h : b.pulseEn <;> cases b <;> simp_all [disarmPulse, emit, setBlock]

/-! ## FIELDS -/

/-- What a FIELDS micro-step with a write pending can do: make one pending write and leave the others pending. -/
theorem seqFields_cons (job : Job) (f : FieldWrite) (rest : List FieldWrite) (s : State) :
    ∃ k, k < (f :: rest).length ∧ k = (drawPick s).1 % (f :: rest).length ∧
      seqFields job (f :: rest) s =
        setSeq (afterFields job ((f :: rest).eraseIdx k)) (applyField ((f :: rest).getD k f) (drawPick s).2) :=
  ⟨_, Nat.mod_lt _ (by simp), rfl, rfl⟩

/-! ## ENABLE -/

/-- What ENABLE_DAC can do: nothing to ask, ok, or the fault. -/
theorem seqEnableDac_cases (job : Job) (s : State) :
    (s.blk.dacEn = true ∧ seqEnableDac job s = toStage job .enableTick s) ∨
    (s.blk.dacEn = false ∧ (requestSetup .dac s).1 = .ok ∧ seqEnableDac job s =
      toStage job .enableTick (emit .dacEnable
        (setBlock { s.blk with dacEn := true } (requestSetup .dac s).2))) ∨
    (s.blk.dacEn = false ∧ (requestSetup .dac s).1 = .fail ∧ seqEnableDac job s =
      toStage job .facade (raiseSetupFault .dac (requestSetup .dac s).2)) := by
  have hb := (requestSetup_spec .dac s).1
  unfold seqEnableDac
  cases hd : s.blk.dacEn
  · rcases hr : requestSetup .dac s with ⟨a, s1⟩
    rw [hr] at hb
    cases a <;> simp_all
  · simp

/-- What ENABLE_TICK can do: nothing to ask, ok, or the fault. -/
theorem seqEnableTick_cases (job : Job) (s : State) :
    (s.blk.tickEn = true ∧ seqEnableTick job s = toStage job .facade s) ∨
    (s.blk.tickEn = false ∧ (requestSetup .tickTimer s).1 = .ok ∧ seqEnableTick job s =
      toStage job .facade (emit .tickStart
        (setBlock { s.blk with tickEn := true } (requestSetup .tickTimer s).2))) ∨
    (s.blk.tickEn = false ∧ (requestSetup .tickTimer s).1 = .fail ∧ seqEnableTick job s =
      toStage job .facade (raiseSetupFault .tickTimer (requestSetup .tickTimer s).2)) := by
  have hb := (requestSetup_spec .tickTimer s).1
  unfold seqEnableTick
  cases hd : s.blk.tickEn
  · rcases hr : requestSetup .tickTimer s with ⟨a, s1⟩
    rw [hr] at hb
    cases a <;> simp_all
  · simp

/-- What ENABLE_PULSE can do: nothing to ask, ok, or the fault. -/
theorem seqEnablePulse_cases (job : Job) (s : State) :
    (s.blk.pulseEn = true ∧ seqEnablePulse job s = toStage job .facade s) ∨
    (s.blk.pulseEn = false ∧ (requestSetup .pulse s).1 = .ok ∧ seqEnablePulse job s =
      toStage job .facade (emit .pulseArm
        (setBlock { s.blk with pulseEn := true } (requestSetup .pulse s).2))) ∨
    (s.blk.pulseEn = false ∧ (requestSetup .pulse s).1 = .fail ∧ seqEnablePulse job s =
      toStage job .facade (raiseSetupFault .pulse (requestSetup .pulse s).2)) := by
  have hb := (requestSetup_spec .pulse s).1
  unfold seqEnablePulse
  cases hd : s.blk.pulseEn
  · rcases hr : requestSetup .pulse s with ⟨a, s1⟩
    rw [hr] at hb
    cases a <;> simp_all
  · simp

/-! ## The stage decides the micro-step -/

theorem microStep_idle {s : State} (h : s.blk.seq = .idle) : microStep s = s := by
  simp [microStep, h]

theorem microStep_disable {s : State} {job : Job} {p : List FieldWrite} (h : s.blk.seq = .busy job .disable p) :
    microStep s = seqDisable job p s := by simp [microStep, h]

theorem microStep_fields {s : State} {job : Job} {p : List FieldWrite} (h : s.blk.seq = .busy job .fields p) :
    microStep s = seqFields job p s := by simp [microStep, h]

theorem microStep_enableDac {s : State} {job : Job} {p : List FieldWrite} (h : s.blk.seq = .busy job .enableDac p) :
    microStep s = seqEnableDac job s := by simp [microStep, h]

theorem microStep_enableTick {s : State} {job : Job} {p : List FieldWrite}
    (h : s.blk.seq = .busy job .enableTick p) : microStep s = seqEnableTick job s := by simp [microStep, h]

theorem microStep_enablePulse {s : State} {job : Job} {p : List FieldWrite}
    (h : s.blk.seq = .busy job .enablePulse p) : microStep s = seqEnablePulse job s := by simp [microStep, h]

theorem microStep_facade {s : State} {job : Job} {p : List FieldWrite} (h : s.blk.seq = .busy job .facade p) :
    microStep s = seqFacade job s := by simp [microStep, h]

/-- A field of the outcome that every micro-step leaves alone: `resetTaken`, the turns and the read results. -/
theorem microStep_frame (s : State) :
    (microStep s).resetTaken = s.resetTaken ∧ (microStep s).inp.turns = s.inp.turns ∧
    (microStep s).obs.reads = s.obs.reads := by
  have req := requestSetup_spec
  unfold microStep
  split
  · simp
  · unfold seqDisable
    split <;> simp [stopTick_eq, disableDac_eq, disarmPulse_eq]
  · unfold seqFields
    split
    · simp
    · have := drawPick_spec s
      simp_all [applyField_obs]
  · rename_i job _ _
    obtain ⟨-, h⟩ | ⟨-, -, h⟩ | ⟨-, -, h⟩ := seqEnableDac_cases job s <;> rw [h] <;> simp [req]
  · rename_i job _ _
    obtain ⟨-, h⟩ | ⟨-, -, h⟩ | ⟨-, -, h⟩ := seqEnableTick_cases job s <;> rw [h] <;> simp [req]
  · rename_i job _ _
    obtain ⟨-, h⟩ | ⟨-, -, h⟩ | ⟨-, -, h⟩ := seqEnablePulse_cases job s <;> rw [h] <;> simp [req]
  · simp [seqFacade]

end Sys2Proof.Machine
end

