-- ==== Sys2Proof/Laws/Safety.lean ====
section
/-! SUPPORT. Small lemmas about the notions the statements use. -/

namespace Sys2Proof.Machine

/-- Whether the other mode's drivers are off depends on the three enables alone. -/
theorem Job.DriversClear.congr {job : Job} {b b' : Block} (h : job.DriversClear b) (ht : b'.tickEn = b.tickEn)
    (hd : b'.dacEn = b.dacEn) (hp : b'.pulseEn = b.pulseEn) : job.DriversClear b' := by
  unfold Job.DriversClear at *
  cases hm : job.mode <;> simp_all

/-- The field writes of a job are three different fields. -/
theorem fieldsOf_nodup (job : Job) : (fieldsOf job).Nodup := by
  unfold fieldsOf
  cases job.mode <;> simp

/-- A job has a field to write. -/
theorem fieldsOf_ne_nil (job : Job) : fieldsOf job ≠ [] := by
  unfold fieldsOf
  cases job.mode <;> simp

/-- Right after a write its field holds. -/
theorem FieldWrite.holds_self (f : FieldWrite) (b : Block) : f.Holds (f.writeTo b) := by cases f <;> rfl

/-- A write of another field of the same job keeps what holds. -/
theorem FieldWrite.holds_writeTo {job : Job} {f g : FieldWrite} {b : Block} (hf : f ∈ fieldsOf job)
    (hg : g ∈ fieldsOf job) (hne : f ≠ g) (h : f.Holds b) : f.Holds (g.writeTo b) := by
  unfold fieldsOf at *
  unfold FieldWrite.Holds at *
  cases hm : job.mode <;> simp [hm] at hf hg <;> rcases hf with rfl | rfl | rfl <;>
    rcases hg with rfl | rfl | rfl <;> simp_all [FieldWrite.writeTo] <;> (cases b; simp_all)

end Sys2Proof.Machine
end

