-- ==== Sys2Proof/Tests/Slice0.lean ====
section
/-! SUPPORT. Tests: what WellFormed refuses, words written out from the encodings of spec/30_encoding.md, single steps
with the values of spec/95_test_vectors.md, and for each statement with hypotheses a state that meets them
(`witness_<statement>`). No expected value was read from the model. -/

namespace Sys2Proof.Tests

open Sys2Proof Sys2Proof.Machine

/-! ## Sample states -/

/-- The block at the end of program P1 (95_test_vectors.md section 3): a sine of 1015.625 Hz plays. -/
def playing : State :=
  { State.reset with
    blk :=
      { Block.reset with
        reqTarget := 0x0003E800, reqAmp := 0xFF, curTarget := 0x0003E800, curActual := 0x0003F7A0, curAmp := 0xFF
        configured := true, phase := 39, phaseStep := 13, ampScale := 255, tickEn := true, dacEn := true
        out := 202 } }

/-- The block after the Square APPLY of program P2. -/
def armed : State :=
  { playing with
    blk :=
      { playing.blk with
        reqTarget := 0xB71B0000, reqAmp := 0, reqWave := .square, curTarget := 0x98968000, curActual := 0x98968000
        curAmp := 0, curWave := .square, ampScale := 0, activeWave := .square, tickEn := false, dacEn := false
        pulseEn := true, pulseFreq := 0x98968000 } }

/-- `s` with an APPLY of the job of its staging registers at this stage. -/
def applying (s : State) (stage : Stage) (pending : List FieldWrite) : State :=
  setSeq (.busy (configure s.blk.reqTarget s.blk.reqAmp s.blk.reqWave) stage pending) s

/-- `s` with these turns, picks and answers to come. -/
def withInputs (s : State) (turns : List Turn) (picks : List Nat) (answers : List Config.Answer) : State :=
  { s with inp := { turns := turns, picks := picks, answers := answers, draws := 0 } }

/-- A Square APPLY about to arm the pulse peripheral, a Sine APPLY about to enable the DAC, and one about to start the tick
engine; the platform answers ok. -/
def arming : State :=
  applying (withInputs { armed with blk := { armed.blk with pulseEn := false } } [] [] [.ok]) .enablePulse []
@[inherit_doc arming] def enabling : State :=
  applying (withInputs { playing with blk := { playing.blk with tickEn := false, dacEn := false } } [] [] [.ok]) .enableDac []
@[inherit_doc arming] def starting : State :=
  applying (withInputs { playing with blk := { playing.blk with tickEn := false } } [] [] [.ok]) .enableTick []

/-- `p` holds of the next state; false for a fault or a refusal. -/
def next? (o : Host.Outcome State Fault Refusal) (p : State → Bool) : Bool :=
  match o with
  | .next t => p t
  | .fault _ => false
  | .refused _ => false

/-- The outcome is this refusal. -/
def refused? (o : Host.Outcome State Fault Refusal) (r : Refusal) : Bool :=
  match o with
  | .next _ => false
  | .fault _ => false
  | .refused r' => r' == r

/-- A host read that returns `v` and changes no state element (R100). -/
def reads? (i : Instr) (s : State) (v : Word) : Bool :=
  next? (exec i s) fun t => t.obs.rdata == some v && t.blk == s.blk

/-! ## WellFormed refuses -/

theorem test_wf_rdRsvd_low : ¬ (Instr.rdRsvd 13).WellFormed := by decide
theorem test_wf_wrIgnoredLo_below : ¬ (Instr.wrIgnoredLo 3).WellFormed := by decide
theorem test_wf_wrIgnoredLo_above : ¬ (Instr.wrIgnoredLo 8).WellFormed := by decide
theorem test_wf_wrIgnoredHi_below : ¬ (Instr.wrIgnoredHi 7).WellFormed := by decide

/-! ## Decoding (95_test_vectors.md V-E, P1, P2; the op column of 30_encoding.md R86) -/

theorem test_decode_reads :
    decodeOp 0x0000000000#38 = .ok .rdCtrl ∧ decodeOp 0x0100000000#38 = .ok .rdReqTargetHz ∧
    decodeOp 0x0200000000#38 = .ok .rdReqAmp ∧ decodeOp 0x0300000000#38 = .ok .rdReqWave ∧
    decodeOp 0x0400000000#38 = .ok .rdStatus ∧ decodeOp 0x04FFFFFFFF#38 = .ok .rdStatus ∧
    decodeOp 0x0500000000#38 = .ok .rdCurTargetHz ∧ decodeOp 0x0600000000#38 = .ok .rdCurActualHz ∧
    decodeOp 0x0700000000#38 = .ok .rdCurAmp ∧ decodeOp 0x0800000000#38 = .ok .rdCurWave ∧
    decodeOp 0x0900000000#38 = .ok .rdPhase ∧ decodeOp 0x0A00000000#38 = .ok .rdPhaseStep ∧
    decodeOp 0x0B00000000#38 = .ok .rdOut ∧ decodeOp 0x0C00000000#38 = .ok .rdPulseFreq ∧
    decodeOp 0x0D00000000#38 = .ok .rdPulseCfg ∧ decodeOp 0x0E00000000#38 = .ok (.rdRsvd 14) ∧
    decodeOp 0x0F00000000#38 = .ok (.rdRsvd 15) := ⟨rfl, rfl, rfl, rfl, rfl, rfl, rfl, rfl, rfl, rfl, rfl, rfl, rfl, rfl, rfl, rfl, rfl⟩

theorem test_decode_writes :
    decodeOp 0x1000000001#38 = .ok (.wrCtrl true) ∧ decodeOp 0x10FFFFFFFE#38 = .ok (.wrCtrl false) ∧
    decodeOp 0x110003E800#38 = .ok (.wrReqTargetHz 0x0003E800) ∧
    decodeOp 0x12000000FF#38 = .ok (.wrReqAmp 0x000000FF) ∧ decodeOp 0x1300000000#38 = .ok (.wrReqWave .sine) ∧
    decodeOp 0x1300000001#38 = .ok (.wrReqWave .triangle) ∧ decodeOp 0x1300000002#38 = .ok (.wrReqWave .sawtooth) ∧
    decodeOp 0x13FFFFFFFF#38 = .ok (.wrReqWave .square) ∧ decodeOp 0x1412345678#38 = .ok (.wrIgnoredLo 4) ∧
    decodeOp 0x1700000000#38 = .ok (.wrIgnoredLo 7) ∧ decodeOp 0x1800000000#38 = .ok (.wrIgnoredHi 8) ∧
    decodeOp 0x1F00000000#38 = .ok (.wrIgnoredHi 15) := ⟨rfl, rfl, rfl, rfl, rfl, rfl, rfl, rfl, rfl, rfl, rfl, rfl⟩

theorem test_decode_events :
    decodeOp 0x2000000000#38 = .ok .tick ∧ decodeOp 0x21DEADBEEF#38 = .ok .reset ∧
    decodeOp 0x2200000000#38 = .error (.reservedEvent 2) ∧ decodeOp 0x2F00000000#38 = .error (.reservedEvent 15) ∧
    decodeOp 0x3000000000#38 = .error (.reservedFormat 0) ∧ decodeOp 0x3F00000000#38 = .error (.reservedFormat 15) :=
  ⟨rfl, rfl, rfl, rfl, rfl, rfl⟩

/-- One word of each format, bit by bit from the `encoding` strings of opcode_table.json. -/
theorem test_decode_bits :
    decodeOp 0b00101000000000000000000000000000000000#38 = .ok .rdPhaseStep ∧
    decodeOp 0b01001100000000000000000000000000000010#38 = .ok (.wrReqWave .sawtooth) ∧
    decodeOp 0b10000100000000000000000000000000000000#38 = .ok .reset := ⟨rfl, rfl, rfl⟩

theorem test_decodeTableWord :
    decodeTableWord 40 0x1000000001 = some (.wrCtrl true) ∧ decodeTableWord 40 0x2200000000 = none := by decide

/-! ## Reads (values: 95_test_vectors.md P1, P2, V-BUS) -/

theorem test_rdCtrl : reads? .rdCtrl playing 0x00000000 = true := by decide
theorem test_rdReqTargetHz : reads? .rdReqTargetHz playing 0x0003E800 = true := by decide
theorem test_rdReqAmp : reads? .rdReqAmp { playing with blk := { playing.blk with reqAmp := 0xFFFFFFFF } } 0xFFFFFFFF = true := by
  decide
theorem test_rdReqWave : reads? .rdReqWave armed 0x00000003 = true := by decide
theorem test_rdStatus : reads? .rdStatus playing 0x00000007 = true := by decide
/-- V-F: a failed pulse setup leaves STATUS 0x71. -/
theorem test_rdStatus_fault :
    reads? .rdStatus { State.reset with blk := { Block.reset with configured := true, setupFault := true, faultSrc := 3 } }
      0x00000071 = true := by decide
theorem test_rdCurTargetHz : reads? .rdCurTargetHz armed 0x98968000 = true := by decide
theorem test_rdCurActualHz : reads? .rdCurActualHz playing 0x0003F7A0 = true := by decide
theorem test_rdCurAmp : reads? .rdCurAmp playing 0x000000FF = true := by decide
theorem test_rdCurWave : reads? .rdCurWave armed 0x00000003 = true := by decide
theorem test_rdPhase : reads? .rdPhase playing 0x00000027 = true := by decide
theorem test_rdPhaseStep : reads? .rdPhaseStep playing 0x0000000D = true := by decide
theorem test_rdOut : reads? .rdOut playing 0x000000CA = true := by decide
theorem test_rdPulseFreq : reads? .rdPulseFreq armed 0x98968000 = true := by decide
theorem test_rdPulseCfg : reads? .rdPulseCfg playing 0x00000880 = true := by decide
theorem test_rdRsvd : reads? (.rdRsvd 14) playing 0x00000000 = true := by decide

/-! ## Writes -/

/-- P1: the job of 1000 Hz, 255, Sine has step 13; the sequencer stands at DISABLE. -/
theorem test_wrCtrl :
    next? (exec (.wrCtrl true) playing) (fun t =>
      t.blk.seq == .busy { mode := .cont 13, wave := .sine, amp := 255, t := 0x0003E800, actual := 0x0003F7A0 } .disable
        [.phaseStep 13, .ampScale 255, .activeWave .sine]) = true := by decide +kernel
theorem test_wrReqTargetHz : next? (exec (.wrReqTargetHz 0xFFFFFFFF) playing)
    (fun t => t.blk.reqTarget == 0xFFFFFFFF && t.blk.phaseStep == 13) = true := by decide
theorem test_wrReqAmp : next? (exec (.wrReqAmp 0xFFFFFFE0) playing)
    (fun t => t.blk.reqAmp == 0xFFFFFFE0 && t.blk.ampScale == 255) = true := by decide
theorem test_wrReqWave : next? (exec (.wrReqWave .triangle) playing)
    (fun t => t.blk.reqWave == .triangle && t.blk.activeWave == .sine) = true := by decide
theorem test_wrIgnoredLo : next? (exec (.wrIgnoredLo 4) playing) (fun t => t == playing) = true := by decide
/-- V-BUS: `WR PHASE, 0` leaves PHASE 0x27. -/
theorem test_wrIgnoredHi : next? (exec (.wrIgnoredHi 9) playing) (fun t => t.blk.phase == 39) = true := by decide

/-! ## Events (95_test_vectors.md V-T, V-R) -/

/-- V-T: phase 39, Triangle, amp 128, step 6: DacWrite(39), phase 45. -/
theorem test_tick_triangle :
    next? (exec .tick { playing with blk := { playing.blk with activeWave := .triangle, ampScale := 128, phaseStep := 6 } })
      (fun t => t.obs.history == [.reset, .dacWrite 39] && t.blk.phase == 45 && t.obs.dacWe) = true := by decide
/-- V-T: phase 255, Sawtooth, amp 255, step 1: DacWrite(254), phase 0. -/
theorem test_tick_wraps :
    next? (exec .tick { playing with blk := { playing.blk with activeWave := .sawtooth, phase := 255, phaseStep := 1 } })
      (fun t => t.blk.out == 254 && t.blk.phase == 0) = true := by decide
/-- V-R: RESET after the Square APPLY of P2. -/
theorem test_reset : next? (exec .reset armed) (fun t => t.blk == Block.reset) = true := by decide
/-- V-R: before the first RESET a host operation is refused. -/
theorem test_refused_before_reset :
    refused? (exec .rdStatus { State.reset with resetTaken := false }) .beforeReset = true := by decide

/-! ## Configure, scaler and tables (95_test_vectors.md section 2) -/

/-- V-Q: clamped target, step and achieved frequency. -/
theorem test_quantizer :
    (∀ v ∈ [(0x00000000, 0x100, 1, 0x4E20), (0x0000270F, 0x270F, 1, 0x4E20), (0x0000752F, 0x752F, 1, 0x4E20),
        (0x00007530, 0x7530, 2, 0x9C40), (0x0000C34F, 0xC34F, 2, 0x9C40), (0x0000C350, 0xC350, 3, 0xEA60),
        (0x0003E800, 0x3E800, 13, 0x3F7A0), (0x001360EF, 0x1360EF, 63, 0x1339E0), (0x001360F0, 0x1360F0, 64, 0x138800),
        (0x001F4000, 0x1F4000, 64, 0x138800), (0xFFFFFFFF, 0x4E2000, 64, 0x138800)],
      let job := configure (BitVec.ofNat 32 v.1) 0 .sawtooth
      job.t = BitVec.ofNat 32 v.2.1 ∧ job.mode = .cont (BitVec.ofNat 8 v.2.2.1) ∧
        job.actual = BitVec.ofNat 32 v.2.2.2) := by decide +kernel

/-- V-SQ. -/
theorem test_square_configure :
    ∀ v ∈ [(0x000000FF, 0x100), (0x00006400, 0x6400), (0x004E2100, 0x4E2100), (0x98968001, 0x98968000),
        (0xFFFFFFFF, 0x98968000)],
      (configure (BitVec.ofNat 32 v.1) 0 .square).actual = BitVec.ofNat 32 v.2 := by decide

/-- V-AMP. -/
theorem test_amplitude :
    ampClamp 0x00000100 = 0xFF ∧ ampClamp 0x7FFFFFFF = 0xFF ∧ ampClamp 0x80000000 = 0 ∧ ampClamp 0xFFFFFFFF = 0 ∧
    ampClamp 0x00000001 = 1 := by decide

/-- V-SC. -/
theorem test_scaler :
    scale 255 255 = 254 ∧ scale 128 255 = 127 ∧ scale 1 255 = 0 ∧ scale 255 128 = 127 ∧ scale 200 0 = 0 ∧
    scale 200 127 = 99 := by decide

/-- V-LUT. -/
theorem test_tables :
    lutRead .sine 13 = 167 ∧ lutRead .sine 128 = 128 ∧ lutRead .sine 224 = 37 ∧ lutRead .triangle 128 = 254 ∧
    lutRead .triangle 255 = 0 ∧ lutRead .sawtooth 129 = 129 := by decide

/-- The codes of 95_test_vectors.md P1 and P2, and by R89 none for a literal above 2^32−1 (log entry 18). -/
theorem test_frequency_literal :
    q8Literal 1000 1 = some 0x0003E800 ∧ q8Literal 12000000 1 = some 0xB71B0000 ∧ q8Literal 25000000 1 = none := by
  decide +kernel

/-! ## States that meet the hypotheses of the statements -/

/-- A running state, not the reset state, has the invariant. -/
theorem playing_inv : playing.Inv := .mk (nomatch ·) (fun _ => rfl) fun _ =>
  { tick_needs_dac := by decide, pulse_alone := by decide, tick_plays := by decide, step_le := by decide
    out_le := by decide, facade_agrees := by decide, unconfigured := by decide, fault_source := by decide
    sequencer := trivial }

/-- So does the armed square state. -/
theorem armed_inv : armed.Inv := .mk (nomatch ·) (fun _ => rfl) fun _ =>
  { tick_needs_dac := by decide, pulse_alone := by decide, tick_plays := by decide, step_le := by decide
    out_le := by decide, facade_agrees := by decide, unconfigured := by decide, fault_source := by decide
    sequencer := trivial }

/-- So does a Square APPLY that is about to arm the pulse peripheral. -/
theorem arming_inv : arming.Inv := .mk (nomatch ·) (fun _ => rfl) fun _ =>
  { tick_needs_dac := by decide, pulse_alone := by decide, tick_plays := by decide, step_le := by decide
    out_le := by decide, facade_agrees := by decide, unconfigured := by decide, fault_source := by decide
    sequencer := ⟨⟨_, _, _, rfl⟩, ⟨rfl, ⟨rfl, rfl⟩, rfl⟩, by unfold FieldWrite.Holds; decide +kernel⟩ }

/-- So does a Sine APPLY that is about to enable the DAC. -/
theorem enabling_inv : enabling.Inv := .mk (nomatch ·) (fun _ => rfl) fun _ =>
  { tick_needs_dac := by decide, pulse_alone := by decide, tick_plays := by decide, step_le := by decide
    out_le := by decide, facade_agrees := by decide, unconfigured := by decide, fault_source := by decide
    sequencer := ⟨⟨_, _, _, rfl⟩, ⟨rfl, rfl, by decide⟩, by unfold FieldWrite.Holds; decide +kernel⟩ }

/-- And one that is about to start the tick engine. -/
theorem starting_inv : starting.Inv := .mk (nomatch ·) (fun _ => rfl) fun _ =>
  { tick_needs_dac := by decide, pulse_alone := by decide, tick_plays := by decide, step_le := by decide
    out_le := by decide, facade_agrees := by decide, unconfigured := by decide, fault_source := by decide
    sequencer := ⟨⟨_, _, _, rfl⟩, ⟨rfl, rfl, by decide, rfl⟩, by unfold FieldWrite.Holds; decide +kernel⟩ }

theorem witness_accepts : playing.Accepts ∧ armed.Accepts := ⟨⟨rfl, rfl⟩, ⟨rfl, rfl⟩⟩

theorem witness_DecodeEncodeRoundTrip :
    (Instr.rdRsvd 14).WellFormed ∧ (Instr.rdRsvd 15).WellFormed ∧ (Instr.wrIgnoredLo 4).WellFormed ∧
    (Instr.wrIgnoredLo 7).WellFormed ∧ (Instr.wrIgnoredHi 8).WellFormed ∧ (Instr.wrIgnoredHi 15).WellFormed ∧
    (Instr.wrReqAmp 0xFFFFFFFF).WellFormed := by decide

theorem witness_DecodedWordKeepsOpcode : decodeOp 0x0FFFFFFFFF#38 = .ok (.rdRsvd 15) := rfl

theorem witness_OpcodeMapDecodes :
    (0xFFFFFFFC#32).extractLsb' 0 2 = 0#2 ∧ (0x5#32).extractLsb' 0 2 = 1#2 ∧ (0x2#32).extractLsb' 0 2 = 2#2 ∧
    (0xFFFFFFFF#32).extractLsb' 0 2 = 3#2 ∧
    waveCode .sine = (0xFFFFFFFC#32).extractLsb' 0 2 ∧ waveCode .square = (0x7#32).extractLsb' 0 2 ∧
    4 ≤ (4#4).toNat ∧ (7#4).toNat ≤ 7 ∧ 8 ≤ (8#4).toNat := by decide

theorem witness_ReservedCodesRefused :
    0x22 ≤ (opField 0x2200000000#38).toNat ∧ 0x22 ≤ (opField 0x3F00000000#38).toNat ∧
    ¬ 0x22 ≤ (opField 0x21FFFFFFFF#38).toNat ∧
    (offer 0x2200000000#38 playing).Offered 0x2200000000#38 ∧ (offer 0x3F00000000#38 playing).Offered 0x3F00000000#38 :=
  ⟨by decide, by decide, by decide, ⟨[], rfl⟩, ⟨[], rfl⟩⟩

theorem witness_StepRunsOfferedOperation :
    (offer 0x2000000000#38 playing).inp.turns = .operation 0x2000000000#38 :: [] ∧
    decodeOp 0x2000000000#38 = .ok .tick ∧ holds .tick (offer 0x2000000000#38 playing) = false := ⟨rfl, rfl, rfl⟩

theorem witness_StepHoldsHostOperation :
    (offer 0x0400000000#38 (applying playing .facade [])).Offered 0x0400000000#38 ∧
    decodeOp 0x0400000000#38 = .ok .rdStatus ∧ Instr.rdStatus.isHost = true ∧
    (applying playing .facade []).resetTaken = true ∧
    (applying playing .facade []).blk.seq = .busy (configure 0x0003E800 0xFF .sine) .facade [] :=
  ⟨⟨[], rfl⟩, rfl, by decide, rfl, rfl⟩

theorem witness_OfferedAfterResetRuns : (Instr.wrReqTargetHz 256000).WellFormed := by decide

/-- Before the first RESET: a TICK offered, a Sequencer turn, an offered RESET, nothing offered. -/
theorem witness_OnlyResetBeforeReset :
    let up := State.powerUp playing.blk Inputs.none
    up.resetTaken = false ∧
    (offer 0x2000000000#38 up).inp.turns = .operation 0x2000000000#38 :: [] ∧ decodeOp 0x2000000000#38 = .ok .tick ∧
    Instr.tick ≠ .reset ∧ (withInputs up [.sequencer] [] []).inp.turns = .sequencer :: [] ∧
    next? (step (offer 0x2100000000#38 up)) (fun t => t.resetTaken) = true ∧
    next? (step up) (fun t => !t.resetTaken) = true :=
  ⟨rfl, rfl, rfl, by decide, rfl, by decide, by decide⟩

theorem witness_HistoryOnlyGrows : next? (step (offer 0x2000000000#38 playing)) (fun _ => true) = true := by decide

theorem witness_HostOperationsWriteStagingOnly :
    Instr.isHost (.wrReqAmp 1) = true ∧ next? (exec (.wrReqAmp 1) playing) (fun t => t.blk.reqAmp == 1) = true := by decide

theorem witness_ContinuousConfigureExact : Wave.triangle ≠ .square := by decide

/-- Both sides of every boundary of the closed form. -/
theorem witness_QuantizerClosedForm :
    256 ≤ 29999 ∧ 29999 < 30000 ∧ quantizeStep 256 = 1 ∧ quantizeStep 29999 = 1 ∧ quantizeStep 30000 = 2 ∧
    quantizeStep 49999 = 2 ∧ quantizeStep 50000 = 3 ∧ quantizeStep 1249999 = 62 ∧ quantizeStep 1250000 = 63 ∧
    quantizeStep 1269999 = 63 ∧ quantizeStep 1270000 = 64 ∧ quantizeStep 5120000 = 64 := by decide

theorem witness_ReachableFrequencies :
    Wave.sine ≠ .square ∧ (configure 0x00000000 0 .sine).actual.toNat = 20000 * 1 ∧
    (configure 0xFFFFFFFF 0 .sine).actual.toNat = 20000 * 64 := by decide

theorem witness_SquareDisableStopsTickThenDac :
    (applying { playing with blk := { playing.blk with reqWave := .square } } .disable []).blk.seq =
      .busy (configure 0x0003E800 0xFF .square) .disable [] ∧ (configure 0x0003E800 0xFF .square).mode = .square :=
  ⟨rfl, rfl⟩

theorem witness_ContinuousDisableDisarmsPulse :
    (applying { armed with blk := { armed.blk with reqWave := .sine } } .disable []).blk.seq =
      .busy (configure 0xB71B0000 0 .sine) .disable [] ∧ (configure 0xB71B0000 0 .sine).mode = .cont 64 := by decide +kernel

/-- The pick of the middle one of three, and of the last one that is left. -/
theorem witness_FieldsMicroStepMakesOneWrite :
    let three := withInputs (applying playing .fields [.phaseStep 13, .ampScale 255, .activeWave .sine]) [] [1, 0] []
    let one := withInputs (applying playing .fields [.activeWave .sine]) [] [0] []
    three.blk.seq = .busy (configure 0x0003E800 0xFF .sine) .fields ([.phaseStep 13] ++ .ampScale 255 :: [.activeWave .sine]) ∧
    three.inp.picks = [FieldWrite.phaseStep 13].length :: [0] ∧
    one.blk.seq = .busy (configure 0x0003E800 0xFF .sine) .fields ([] ++ .activeWave .sine :: []) ∧
    one.inp.picks = ([] : List FieldWrite).length :: [] := by decide

theorem witness_EveryFieldOrderReachesSameBlock :
    [FieldWrite.activeWave .sine, .phaseStep 13, .ampScale 255].Perm (fieldsOf (configure 0x0003E800 0xFF .sine)) ∧
    (applying playing .fields (fieldsOf (configure 0x0003E800 0xFF .sine))).blk.seq =
      .busy (configure 0x0003E800 0xFF .sine) .fields (fieldsOf (configure 0x0003E800 0xFF .sine)) := by decide +kernel

/-- Each clause: already enabled; off and answered ok; off and answered fail. -/
theorem witness_EnableDacAsksPlatform :
    let on := applying playing .enableDac []
    let failing := withInputs enabling [] [] [.fail]
    on.blk.seq = .busy (configure 0x0003E800 0xFF .sine) .enableDac [] ∧ on.blk.dacEn = true ∧
    enabling.blk.seq = .busy (configure 0x0003E800 0xFF .sine) .enableDac [] ∧ enabling.blk.dacEn = false ∧ enabling.inp.answers = .ok :: [] ∧
    failing.blk.seq = .busy (configure 0x0003E800 0xFF .sine) .enableDac [] ∧ failing.blk.dacEn = false ∧ failing.inp.answers = .fail :: [] := by
  decide

theorem witness_EnableTickAsksPlatform :
    let on := applying playing .enableTick []
    let failing := withInputs starting [] [] [.fail]
    on.blk.seq = .busy (configure 0x0003E800 0xFF .sine) .enableTick [] ∧ on.blk.tickEn = true ∧
    starting.blk.seq = .busy (configure 0x0003E800 0xFF .sine) .enableTick [] ∧ starting.blk.tickEn = false ∧ starting.inp.answers = .ok :: [] ∧
    failing.blk.seq = .busy (configure 0x0003E800 0xFF .sine) .enableTick [] ∧ failing.blk.tickEn = false ∧ failing.inp.answers = .fail :: [] := by
  decide

theorem witness_EnablePulseAsksPlatform :
    let on := applying armed .enablePulse []
    let failing := withInputs arming [] [] [.fail]
    on.blk.seq = .busy (configure 0xB71B0000 0 .square) .enablePulse [] ∧ on.blk.pulseEn = true ∧
    arming.blk.seq = .busy (configure 0xB71B0000 0 .square) .enablePulse [] ∧ arming.blk.pulseEn = false ∧ arming.inp.answers = .ok :: [] ∧
    failing.blk.seq = .busy (configure 0xB71B0000 0 .square) .enablePulse [] ∧ failing.blk.pulseEn = false ∧ failing.inp.answers = .fail :: [] := by
  decide

theorem witness_BothAnswersAdmitted :
    enabling.blk.seq = .busy (configure 0x0003E800 0xFF .sine) .enableDac [] ∧ enabling.blk.dacEn = false ∧
    starting.blk.seq = .busy (configure 0x0003E800 0xFF .sine) .enableTick [] ∧ starting.blk.tickEn = false ∧
    arming.blk.seq = .busy (configure 0xB71B0000 0 .square) .enablePulse [] ∧ arming.blk.pulseEn = false := by decide

theorem witness_FacadeCompletesApply :
    (applying armed .facade []).blk.seq = .busy (configure 0xB71B0000 0 .square) .facade [] := rfl

theorem witness_EffectiveTickPlaysSample :
    playing.resetTaken = true ∧ playing.blk.tickEn = true ∧ (playing.blk.activeWave, Table.sine) ∈
      [(Wave.sine, Table.sine), (Wave.triangle, Table.triangle), (Wave.sawtooth, Table.sawtooth)] := by decide

theorem witness_IdleTickHasNoEffect :
    armed.resetTaken = true ∧ armed.blk.tickEn = false ∧
    { playing.blk with activeWave := .square }.activeWave = .square := by decide

/-- The second state differs in the façade, the staging registers, the fault flags and the sequencer. -/
theorem witness_TickReadsEngineStateOnly :
    let s2 := applying { playing with blk := { playing.blk with curAmp := 3, reqWave := .square, setupFault := true } } .facade []
    playing.blk.tickEn = s2.blk.tickEn ∧ playing.blk.activeWave = s2.blk.activeWave ∧ playing.blk.phase = s2.blk.phase ∧
    playing.blk.phaseStep = s2.blk.phaseStep ∧ playing.blk.ampScale = s2.blk.ampScale ∧ playing.blk.out = s2.blk.out ∧
    next? (exec .tick playing) (fun t => t.blk.phase == 52) = true ∧
    next? (exec .tick s2) (fun t => t.blk.phase == 52) = true := by decide

theorem witness_TicksPlayTableInOrder :
    (withInputs playing (List.replicate 3 (.operation (encode .tick))) [] []).inp.turns =
      List.replicate 3 (.operation (encode .tick)) ++ [] ∧
    playing.resetTaken = true ∧ playing.blk.tickEn = true ∧ (playing.blk.activeWave, Table.sine) ∈
      [(Wave.sine, Table.sine), (Wave.triangle, Table.triangle), (Wave.sawtooth, Table.sawtooth)] := by decide

theorem witness_SineTableIsRoundedSine : (1#8) ≠ 0 ∧ (255#8) ≠ 128 := by decide

theorem witness_OnlyResetClearsFaultFlags :
    next? (step { playing with blk := { playing.blk with setupFault := true, faultSrc := 1 } }) (fun _ => true) = true ∧
    ¬ { playing with blk := { playing.blk with setupFault := true, faultSrc := 1 } }.TakesReset :=
  ⟨by decide, fun ⟨_, ⟨_, h⟩, _⟩ => nomatch (show [] = _ from h)⟩

theorem witness_OnlyFacadeWritesReadback :
    next? (step (applying armed .facade [])) (fun t => t.blk.configured) = true ∧
    ¬ (applying armed .facade []).TakesReset :=
  ⟨by decide, fun ⟨_, ⟨_, h⟩, _⟩ => nomatch (show [] = _ from h)⟩

theorem witness_StepKeepsInvariant :
    playing.Inv ∧ next? (step (offer 0x2000000000#38 playing)) (fun t => t.blk.phase == 52) = true ∧
    (offer 0x2000000000#38 playing).Inv :=
  ⟨playing_inv, by decide, ⟨playing_inv.1, playing_inv.2, playing_inv.3⟩⟩

theorem witness_NoEffectiveTickWhilePulseArmed :
    armed.Inv ∧ armed.resetTaken = true ∧ armed.blk.pulseEn = true := ⟨armed_inv, rfl, rfl⟩

/-- The hypotheses of both clauses: a step that records PulseArm, one that records DacEnable, one that records TickStart. -/
theorem witness_ModeSwitchOrdering :
    (∃ s t, s.Inv ∧ s.resetTaken = true ∧ step s = .next t ∧ t.obs.history = s.obs.history ++ [.pulseArm]) ∧
    (∃ s t, s.Inv ∧ s.resetTaken = true ∧ step s = .next t ∧ t.obs.history = s.obs.history ++ [.dacEnable]) ∧
    (∃ s t, s.Inv ∧ s.resetTaken = true ∧ step s = .next t ∧ t.obs.history = s.obs.history ++ [.tickStart]) :=
  ⟨⟨_, _, arming_inv, rfl, rfl, rfl⟩, ⟨_, _, enabling_inv, rfl, rfl, rfl⟩, ⟨_, _, starting_inv, rfl, rfl, rfl⟩⟩

/-- A continuous and a square request, from running states with nothing offered. -/
theorem witness_ApplyCompletes :
    playing.Accepts ∧ playing.inp.turns = [] ∧ playing.blk.reqWave ≠ .square ∧
    armed.Accepts ∧ armed.inp.turns = [] ∧ armed.blk.reqWave = .square :=
  ⟨⟨rfl, rfl⟩, rfl, by decide, ⟨rfl, rfl⟩, rfl, rfl⟩

/-- An APPLY that raises one fault, for each mode. -/
theorem witness_ApplyRaisesAtMostOneFault :
    let sine := withInputs { playing with blk := { playing.blk with tickEn := false, dacEn := false } } [] [0, 0, 0] [.fail]
    let square := withInputs { armed with blk := { armed.blk with pulseEn := false } } [] [0, 0, 0] [.fail]
    sine.Accepts ∧ sine.inp.turns = [] ∧
    next? (runApply sine) (fun t => t.obs.history == [.reset, .setupFail .dac] && t.blk.setupFault) = true ∧
    square.Accepts ∧ square.inp.turns = [] ∧
    next? (runApply square)
      (fun t => t.obs.history == [.reset, .pulseFreq 0x98968000, .setupFail .pulse] && t.blk.setupFault) = true :=
  ⟨⟨rfl, rfl⟩, rfl, by decide +kernel, ⟨rfl, rfl⟩, rfl, by decide +kernel⟩

/-- Eight turns after the APPLY, one of them a TICK. -/
theorem witness_ApplyAmongTicks :
    let turns := Turn.sequencer :: .operation (encode .tick) :: List.replicate 6 .sequencer
    (withInputs playing (.operation (encode (.wrCtrl true)) :: turns) [] []).Accepts ∧
    (∀ u ∈ turns, u = .sequencer ∨ u = .operation (encode .tick)) ∧ 7 ≤ turns.count .sequencer :=
  ⟨⟨rfl, rfl⟩, by decide, by decide⟩

/-- An APPLY that leaves its output enabled, for each mode; `armed` and `playing` already have the drivers on, so the
platform is asked nothing and the run needs no answer. -/
theorem witness_ApplyIsIdempotent :
    playing.Accepts ∧ playing.inp.turns = [] ∧ next? (runApply (withInputs playing [] [0, 0, 0] []))
      (fun t => t.blk.dacEn && t.blk.tickEn) = true ∧
    armed.Accepts ∧ armed.inp.turns = [] ∧ next? (runApply (withInputs armed [] [0, 0, 0] []))
      (fun t => t.blk.pulseEn) = true :=
  ⟨⟨rfl, rfl⟩, rfl, by decide, ⟨rfl, rfl⟩, rfl, by decide⟩

/-- Both outcomes: two steps with nothing offered, and a RESET. -/
theorem witness_NothingObservedBeforeReset :
    (State.powerUp armed.blk Inputs.none).PoweredUp ∧
    next? (Host.Core.run Sys2Proof.core 2 (State.powerUp armed.blk Inputs.none)) (fun t => t.obs.history == []) = true ∧
    next? (Host.Core.run Sys2Proof.core 1 (offer 0x2100000000#38 (State.powerUp armed.blk Inputs.none)))
      (fun t => t.obs.history == [.reset]) = true :=
  ⟨⟨rfl, rfl, rfl⟩, by decide, by decide⟩

theorem witness_TicksStartAtEnableTick :
    State.reset.resetTaken = true ∧ State.reset.blk.tickEn = false ∧ starting.blk.tickEn = false ∧
    next? (step starting) (fun t => t.blk.tickEn) = true := by decide

theorem witness_FirstResetGivesResetState : decodeOp 0x21DEADBEEF#38 = .ok .reset := rfl

end Sys2Proof.Tests
end

/-! PROOFS. The agents and the history (spec/00_scope.md R12, R13, R15): a step runs the operation it is offered, a word of
the encoder comes back from the decoder, and what is observed only grows. -/

namespace Sys2Proof

/-! ## The decoder on the encoder's words -/

/-- A well-formed operation comes back from its own word (R86). Only the three operations with a slot operand need
`WellFormed`: its bound puts the slot in their own row. -/
theorem decodeOp_encode {i : Instr} (h : i.WellFormed) : decodeOp (encode i) = .ok i := by
  cases i with
  | rdRsvd slot | wrIgnoredLo slot | wrIgnoredHi slot => revert slot; decide
  | wrCtrl apply => cases apply <;> rfl
  | wrReqWave wave => cases wave <;> rfl
  | wrReqTargetHz wdata => exact decodeOp_opWord 0x11#6 wdata
  | wrReqAmp wdata => exact decodeOp_opWord 0x12#6 wdata
  | _ => rfl

/-- The table's 40-bit number of an operation word is that word. -/
theorem tableOpWord_toNat (w : OpWord) : tableOpWord 40 w.toNat = w := by
  have hw : w.toNat < 2 ^ 40 := w.isLt.trans (by decide)
  rw [tableOpWord, Nat.mod_eq_of_lt hw, BitVec.ofNat_toNat, BitVec.setWidth_eq]

end Sys2Proof

namespace Sys2Proof.Machine

/-! ## The offered operation -/

/-- An offered operation that need not wait is the next move, with its turn taken and the ports at rest. -/
theorem step_operation {s : State} {w : OpWord} {rest : List Turn} {i : Instr} (ht : s.inp.turns = .operation w :: rest)
    (hd : decodeOp w = .ok i) (hh : holds i s = false) : step s = exec i (dropTurn (restPorts s)) := by
  simp [step, nextMove, ht, hd, hh]

/-- With no APPLY pending no operation waits. -/
theorem holds_of_idle {s : State} (i : Instr) (hq : s.blk.seq = .idle) : holds i s = false := by
  simp [holds, hq]

/-- Settles O7, by the move that `nextMove` gives for an offered word. -/
theorem stepRunsOfferedOperation : Obligations.StepRunsOfferedOperation := by
  intro s w rest i ht hd hh
  rw [step_operation ht hd hh]
  simp [dropTurn, restPorts, ht]

/-- Settles O9: the word decodes to the operation, nothing waits at reset, and taking the one turn gives back
`State.reset`. -/
theorem offeredAfterResetRuns : Obligations.OfferedAfterResetRuns := by
  intro i hi
  rw [State.withFetchWord, tableOpWord_toNat]
  exact step_operation (offer_turns State.reset (encode i)) (decodeOp_encode hi) (holds_of_idle i rfl)

/-! ## The history only grows -/

/-- A setup request records no event of its own. -/
@[simp] theorem requestSetup_history (which : Peripheral) (s : State) :
    (requestSetup which s).2.obs.history = s.obs.history := by
  obtain ⟨-, -, hobs, -⟩ := requestSetup_spec which s
  rw [hobs]

/-- DISABLE appends the events of the drivers it stops. -/
theorem seqDisable_history_prefix (job : Job) (pending : List FieldWrite) (s : State) :
    s.obs.history <+: (seqDisable job pending s).obs.history := by
  unfold seqDisable
  cases job.mode with
  | square => simp [stopTick_eq, disableDac_eq]
  | cont step => simp [disarmPulse_eq]

/-- FIELDS appends at most the event of the one write it makes. -/
theorem seqFields_history_prefix (job : Job) (pending : List FieldWrite) (s : State) :
    s.obs.history <+: (seqFields job pending s).obs.history := by
  cases pending with
  | nil => exact List.prefix_refl _
  | cons f rest =>
    obtain ⟨k, -, -, hk⟩ := seqFields_cons job f rest s
    obtain ⟨-, -, hobs, -⟩ := drawPick_spec s
    simp [hk, applyField_obs, hobs]

/-- ENABLE_DAC appends DacEnable, SetupFail or nothing. -/
theorem seqEnableDac_history_prefix (job : Job) (s : State) :
    s.obs.history <+: (seqEnableDac job s).obs.history := by
  obtain ⟨-, h⟩ | ⟨-, -, h⟩ | ⟨-, -, h⟩ := seqEnableDac_cases job s <;> simp [h]

/-- ENABLE_TICK appends TickStart, SetupFail or nothing. -/
theorem seqEnableTick_history_prefix (job : Job) (s : State) :
    s.obs.history <+: (seqEnableTick job s).obs.history := by
  obtain ⟨-, h⟩ | ⟨-, -, h⟩ | ⟨-, -, h⟩ := seqEnableTick_cases job s <;> simp [h]

/-- ENABLE_PULSE appends PulseArm, SetupFail or nothing. -/
theorem seqEnablePulse_history_prefix (job : Job) (s : State) :
    s.obs.history <+: (seqEnablePulse job s).obs.history := by
  obtain ⟨-, h⟩ | ⟨-, -, h⟩ | ⟨-, -, h⟩ := seqEnablePulse_cases job s <;> simp [h]

/-- No micro-step takes an event back. -/
theorem microStep_history_prefix (s : State) : s.obs.history <+: (microStep s).obs.history := by
  match hq : s.blk.seq with
  | .idle => rw [microStep_idle hq]
  | .busy job .disable pending => rw [microStep_disable hq]; exact seqDisable_history_prefix job pending s
  | .busy job .fields pending => rw [microStep_fields hq]; exact seqFields_history_prefix job pending s
  | .busy job .enableDac _ => rw [microStep_enableDac hq]; exact seqEnableDac_history_prefix job s
  | .busy job .enableTick _ => rw [microStep_enableTick hq]; exact seqEnableTick_history_prefix job s
  | .busy job .enablePulse _ => rw [microStep_enablePulse hq]; exact seqEnablePulse_history_prefix job s
  | .busy job .facade _ => rw [microStep_facade hq]; exact List.prefix_refl _

/-- What is recorded of `s` (R13), the events and the read results, is the beginning of what is recorded of `t`. -/
def State.RecordedBefore (s t : State) : Prop :=
  s.obs.history <+: t.obs.history ∧ s.obs.reads <+: t.obs.reads

/-- A micro-step answers no read, and appends to the events. -/
theorem recordedBefore_microStep (s : State) : s.RecordedBefore (microStep s) := by
  obtain ⟨-, -, hreads⟩ := microStep_frame s
  exact ⟨microStep_history_prefix s, hreads ▸ List.prefix_refl _⟩

/-- A TICK answers no read, and appends a DacWrite or nothing. -/
theorem recordedBefore_takeTick (s : State) : s.RecordedBefore (takeTick s) := by
  obtain ⟨table, -, -, h⟩ | ⟨-, h⟩ := takeTick_cases s <;> simp [State.RecordedBefore, h, playSample_eq]

/-- No operation takes back an event or a read result: RESET and TICK append an event, a host read its result. -/
theorem recordedBefore_of_exec {i : Instr} {s t : State} (h : exec i s = .next t) : s.RecordedBefore t := by
  obtain ⟨-, rfl⟩ | ⟨-, ⟨-, rfl⟩ | ⟨-, -, rfl⟩ | ⟨-, -, hhost⟩⟩ := exec_cases h
  · simp [State.RecordedBefore]
  · exact recordedBefore_takeTick s
  · simp [State.RecordedBefore]
  · obtain ⟨v, rfl⟩ | rfl | rfl | ⟨d, rfl⟩ | ⟨d, rfl⟩ | ⟨wave, rfl⟩ := hhost <;> simp [State.RecordedBefore]

/-- Settles O11: resting the ports and taking a turn record nothing, and each kind of move only appends. -/
theorem historyOnlyGrows : Obligations.HistoryOnlyGrows := by
  intro s t h
  obtain ⟨-, -, rfl⟩ | ⟨-, s0, rfl | rfl, rfl⟩ | ⟨w, rest, i, -, -, -, hexec⟩ := step_cases h
  · exact ⟨List.prefix_refl _, List.prefix_refl _⟩
  · exact recordedBefore_microStep (restPorts s)
  · exact recordedBefore_microStep (dropTurn (restPorts s))
  · have hrec : (dropTurn (restPorts s)).RecordedBefore t := recordedBefore_of_exec hexec
    exact hrec

end Sys2Proof.Machine

/-! PROOFS. The state (spec/10_state.md R30, R45, R51): nothing but RESET moves the machine before the first RESET, a TICK
reads the engine alone, and TICK_EN rises at ENABLE_TICK alone. -/

namespace Sys2Proof.Machine

/-! ## Before the first RESET -/

/-- R224: before the first RESET every operation but RESET is refused. -/
theorem exec_unreset {i : Instr} {s : State} (hi : i ≠ .reset) (hr : s.resetTaken = false) :
    exec i s = .refused .beforeReset := by
  cases hhost : i.isHost with
  | true =>
    obtain ⟨effect, heffect, -⟩ := exec_host hhost s
    rw [heffect, hostAccept_unreset hr]
  | false =>
    obtain rfl | rfl := eq_tick_or_reset hhost
    · simp [exec, execTick, hr]
    · exact absurd rfl hi

/-- Before the first RESET no operation waits: it is refused at once. -/
theorem holds_of_unreset (i : Instr) {s : State} (hr : s.resetTaken = false) : holds i s = false := by
  simp [holds, hr]

/-- R224: before the first RESET a turn of the Sequencer is refused. -/
theorem step_sequencer_unreset {s : State} {rest : List Turn} (ht : s.inp.turns = .sequencer :: rest)
    (hr : s.resetTaken = false) : step s = .refused .beforeReset := by
  simp [step, nextMove, ht, hr]

/-- R224: before the first RESET a step offered any operation but RESET is refused. -/
theorem step_operation_unreset {s : State} {w : OpWord} {i : Instr} (hoffered : s.Offered w) (hd : decodeOp w = .ok i)
    (hi : i ≠ .reset) (hr : s.resetTaken = false) : step s = .refused .beforeReset := by
  obtain ⟨rest, ht⟩ := hoffered
  rw [step_operation ht hd (holds_of_unreset i hr)]
  exact exec_unreset hi hr

/-- A refusal ends the run: it is the outcome for every number of further steps. -/
theorem run_refused {s : State} {r : Refusal} (h : step s = .refused r) (k : Nat) :
    Host.Core.run Sys2Proof.core (k + 1) s = .refused r := by
  have hcore : Sys2Proof.core.step s = .refused r := h
  simp only [Host.Core.run, hcore]

/-- Before the first RESET a step that is not refused takes an offered RESET, or finds no turn and rests the ports. -/
theorem step_unreset_cases {s t : State} (hr : s.resetTaken = false) (h : step s = .next t) :
    (s.TakesReset ∧ t = takeReset (dropTurn (restPorts s))) ∨ (s.inp.turns = [] ∧ t = restPorts s) := by
  obtain ⟨ht, -, hrest⟩ | ⟨htaken, -⟩ | ⟨w, rest, i, ht, hd, -, hexec⟩ := step_cases h
  · exact .inr ⟨ht, hrest⟩
  · simp [hr] at htaken
  · obtain ⟨rfl, hreset⟩ | ⟨htaken, -⟩ := exec_cases hexec
    · exact .inl ⟨⟨w, ⟨rest, ht⟩, hd⟩, hreset⟩
    · simp [hr] at htaken

/-- Settles O10: each kind of move before the first RESET but RESET itself is refused or rests. -/
theorem onlyResetBeforeReset : Obligations.OnlyResetBeforeReset := by
  intro s hr
  refine ⟨fun i hi => exec_unreset hi hr, fun w i hoffered hd hi => ?_, fun rest ht => ?_, fun t h => ?_⟩
  · exact run_refused (step_operation_unreset hoffered hd hi hr)
  · exact run_refused (step_sequencer_unreset ht hr)
  · obtain ⟨hreset, rfl⟩ | ⟨ht, rfl⟩ := step_unreset_cases hr h
    · exact .inl ⟨hreset, rfl, rfl, rfl⟩
    · exact .inr ⟨ht, hr, rfl, rfl, rfl, rfl⟩

/-! ## What a TICK reads -/

/-- After the first RESET, and only then, a TICK answers, with the tick engine's next state. -/
theorem exec_tick_eq_next_iff {s t : State} : exec .tick s = .next t ↔ s.resetTaken = true ∧ takeTick s = t := by
  cases hr : s.resetTaken <;> simp [exec, execTick, hr]

/-- R181: with TICK_EN = 0 the tick engine is idle. -/
theorem takeTick_of_disabled {s : State} (h : s.blk.tickEn = false) : takeTick s = s := by
  simp [takeTick, h]

/-- R181: Square has no table, so the tick engine is idle. -/
theorem takeTick_of_square {s : State} (h : s.blk.activeWave = .square) : takeTick s = s := by
  simp [takeTick, h, tableOf]

/-- R182: with TICK_EN = 1 and a wave that has a table, a TICK plays a sample of that table. -/
theorem takeTick_of_table {s : State} {table : Table} (hen : s.blk.tickEn = true)
    (hwave : tableOf s.blk.activeWave = some table) : takeTick s = playSample table s := by
  simp [takeTick, hen, hwave]

/-- Settles O38: the engine elements alone decide whether a sample is played, of which table, and its value. An idle TICK
leaves the common `out` and `phase`; an effective one appends the same one DacWrite in both. -/
theorem tickReadsEngineStateOnly : Obligations.TickReadsEngineStateOnly := by
  intro s1 s2 t1 t2 hen hwave hphase hstep hamp hout h1 h2
  obtain ⟨-, rfl⟩ := exec_tick_eq_next_iff.1 h1
  obtain ⟨-, rfl⟩ := exec_tick_eq_next_iff.1 h2
  obtain ⟨table, hen1, htable, hplay1⟩ | ⟨hidle, hidle1⟩ := takeTick_cases s1
  · have hplay2 : takeTick s2 = playSample table s2 := takeTick_of_table (hen ▸ hen1) (hwave ▸ htable)
    simp [hplay1, hplay2, playSample_eq, hphase, hstep, hamp]
  · have hidle2 : takeTick s2 = s2 := hidle.elim
      (fun hen1 => takeTick_of_disabled (hen ▸ hen1)) (fun hwave1 => takeTick_of_square (hwave ▸ hwave1))
    simp [hidle1, hidle2, hphase, hout]

/-! ## When TICK_EN rises -/

@[simp] theorem faultFlags_tickEn (which : Peripheral) (b : Block) : (faultFlags which b).tickEn = b.tickEn := rfl

/-- A setup request touches no element of the block. -/
@[simp] theorem requestSetup_blk (which : Peripheral) (s : State) : (requestSetup which s).2.blk = s.blk :=
  (requestSetup_spec which s).1

/-- R151, R152: DISABLE does not set TICK_EN. -/
theorem seqDisable_tickEn {s : State} (job : Job) (pending : List FieldWrite) (h : s.blk.tickEn = false) :
    (seqDisable job pending s).blk.tickEn = false := by
  unfold seqDisable
  cases job.mode with
  | square => simp [stopTick_eq, disableDac_eq]
  | cont step => simp [disarmPulse_eq, h]

/-- R153, R154: TICK_EN is no field that FIELDS writes. -/
@[simp] theorem seqFields_tickEn (job : Job) (pending : List FieldWrite) (s : State) :
    (seqFields job pending s).blk.tickEn = s.blk.tickEn := by
  cases pending with
  | nil => rfl
  | cons f rest =>
    obtain ⟨k, -, -, hk⟩ := seqFields_cons job f rest s
    obtain ⟨hblk, -⟩ := drawPick_spec s
    simp [hk, hblk]

/-- R155: ENABLE_DAC leaves TICK_EN, whatever the platform answers. -/
@[simp] theorem seqEnableDac_tickEn (job : Job) (s : State) : (seqEnableDac job s).blk.tickEn = s.blk.tickEn := by
  obtain ⟨-, h⟩ | ⟨-, -, h⟩ | ⟨-, -, h⟩ := seqEnableDac_cases job s <;> simp [h]

/-- R156: ENABLE_PULSE leaves TICK_EN, whatever the platform answers. -/
@[simp] theorem seqEnablePulse_tickEn (job : Job) (s : State) : (seqEnablePulse job s).blk.tickEn = s.blk.tickEn := by
  obtain ⟨-, h⟩ | ⟨-, -, h⟩ | ⟨-, -, h⟩ := seqEnablePulse_cases job s <;> simp [h]

/-- `t` comes from `s` by the ENABLE_TICK micro-step that starts the ticks (R155): it sets TICK_EN, records TickStart and
goes to FACADE. -/
def State.StartsTicks (s t : State) : Prop :=
  ∃ job pending, s.blk.seq = .busy job .enableTick pending ∧
    t.blk = { s.blk with tickEn := true, seq := .busy job .facade [] } ∧
    t.obs.history = s.obs.history ++ [.tickStart]

/-- R155: an ENABLE_TICK that sets TICK_EN was answered ok, and does no more than start the ticks. -/
theorem startsTicks_seqEnableTick {s : State} {job : Job} {pending : List FieldWrite}
    (hq : s.blk.seq = .busy job .enableTick pending) (h0 : s.blk.tickEn = false)
    (h1 : (seqEnableTick job s).blk.tickEn = true) : s.StartsTicks (seqEnableTick job s) := by
  obtain ⟨hen, -⟩ | ⟨-, -, hok⟩ | ⟨-, -, hfail⟩ := seqEnableTick_cases job s
  · simp [h0] at hen
  · exact ⟨job, pending, hq, by simp [hok], by simp [hok]⟩
  · simp [hfail, h0] at h1

/-- Of all micro-steps only ENABLE_TICK's sets TICK_EN. -/
theorem startsTicks_microStep {s : State} (h0 : s.blk.tickEn = false) (h1 : (microStep s).blk.tickEn = true) :
    s.StartsTicks (microStep s) := by
  match hq : s.blk.seq with
  | .busy job .enableTick pending =>
    rw [microStep_enableTick hq] at h1 ⊢
    exact startsTicks_seqEnableTick hq h0 h1
  | .idle => simp [microStep_idle hq, h0] at h1
  | .busy job .disable pending => simp [microStep_disable hq, seqDisable_tickEn job pending h0] at h1
  | .busy job .fields pending => simp [microStep_fields hq, h0] at h1
  | .busy job .enableDac _ => simp [microStep_enableDac hq, h0] at h1
  | .busy job .enablePulse _ => simp [microStep_enablePulse hq, h0] at h1
  | .busy job .facade _ => simp [microStep_facade hq, seqFacade, h0] at h1

/-- No operation sets TICK_EN: RESET clears it, an idle TICK and every host operation leave it. -/
theorem exec_tickEn_of_disabled {i : Instr} {s t : State} (h : exec i s = .next t) (h0 : s.blk.tickEn = false) :
    t.blk.tickEn = false := by
  obtain ⟨-, rfl⟩ | ⟨-, ⟨-, rfl⟩ | ⟨-, -, rfl⟩ | ⟨-, -, hhost⟩⟩ := exec_cases h
  · rfl
  · rwa [takeTick_of_disabled h0]
  · exact h0
  · obtain ⟨v, rfl⟩ | rfl | rfl | ⟨d, rfl⟩ | ⟨d, rfl⟩ | ⟨wave, rfl⟩ := hhost <;> exact h0

/-- Settles O59: with TICK_EN = 0 the tick engine is idle, no operation and no resting step sets TICK_EN, and of the
micro-steps only ENABLE_TICK does. -/
theorem ticksStartAtEnableTick : Obligations.TicksStartAtEnableTick := by
  refine ⟨fun s hr h0 => exec_tick_eq_next_iff.2 ⟨hr, takeTick_of_disabled h0⟩, fun s t h h0 h1 => ?_⟩
  obtain ⟨-, -, rfl⟩ | ⟨-, s0, rfl | rfl, rfl⟩ | ⟨w, rest, i, -, -, -, hexec⟩ := step_cases h
  · simp [h0] at h1
  · exact startsTicks_microStep (s := restPorts s) h0 h1
  · exact startsTicks_microStep (s := dropTurn (restPorts s)) h0 h1
  · simp [exec_tickEn_of_disabled hexec h0] at h1

end Sys2Proof.Machine

/-! PROOFS. The table ROM (spec/20_memory.md R61 to R64): the ramps by their formulas, the checks on the sine table, and
every entry of that table as the rounded real sine. -/

namespace Sys2Proof.Machine

/-! ## The ramps -/

/-- No entry of the triangle table loses a bit in the ROM's 8-bit words: neither ramp passes 2 · 127. -/
theorem lutRead_triangle_toNat (i : Byte) : (lutRead .triangle i).toNat = triangleEntry i.toNat := by
  have hfits : triangleEntry i.toNat < 256 := by
    unfold triangleEntry Config.tableLength
    split <;> omega
  rw [lutRead, BitVec.toNat_ofNat, Nat.mod_eq_of_lt hfits]

/-- Settles O42: the entries fit 8 bits, so the ROM holds what the two formulas say. -/
theorem rampTables : Obligations.RampTables := by
  intro i
  refine ⟨?_, ?_⟩
  · rw [lutRead_triangle_toNat]
    rfl
  · rw [lutRead, sawtoothEntry, BitVec.ofNat_toNat, BitVec.setWidth_eq]

/-! ## The checks on the sine table (R62) -/

/-- Read in order, the ROM gives the transcribed rows. -/
theorem lutRead_sine_range :
    ((List.range 256).map fun i => (lutRead .sine (BitVec.ofNat 8 i)).toNat) = sineTable := by
  decide +kernel

theorem sineTable_sum : sineTable.sum = 32641 := by decide +kernel

theorem lutRead_sine_eq_zero_iff : ∀ i : Byte, lutRead .sine i = 0 ↔ 189 ≤ i.toNat ∧ i.toNat ≤ 195 := by decide +kernel

theorem lutRead_sine_eq_max_iff : ∀ i : Byte, lutRead .sine i = 255 ↔ 61 ≤ i.toNat ∧ i.toNat ≤ 67 := by decide +kernel

/-- The second quarter mirrors the first. -/
theorem lutRead_sine_mirror : ∀ i : Byte, 1 ≤ i.toNat → i.toNat ≤ 127 → lutRead .sine (128 - i) = lutRead .sine i := by
  decide +kernel

/-- The second half complements the first. -/
theorem lutRead_sine_complement : ∀ i : Byte, 1 ≤ i.toNat → i.toNat ≤ 127 →
    (lutRead .sine (128 + i)).toNat = 255 - (lutRead .sine i).toNat := by decide +kernel

/-- Settles O43: each check is a finite comparison of the ROM's rows. -/
theorem sineTableChecks : Obligations.SineTableChecks := by
  refine ⟨?_, fun i => ⟨lutRead_sine_eq_zero_iff i, lutRead_sine_eq_max_iff i⟩,
    fun i h1 h127 => ⟨lutRead_sine_mirror i h1 h127, lutRead_sine_complement i h1 h127⟩, rfl, rfl⟩
  rw [lutRead_sine_range, sineTable_sum]

/-! ## A rational bound on the sines of the table's angles

R61 asks for sin(kπ/128), the imaginary part of the k-th power of exp(iπ/128). The powers of a rational point near
exp(iπ/128) are exact, and stay near its powers. -/

/-- For `z` on the unit circle and `w` in the disk, the distance of the k-th powers is at most k times that of `z` and
`w`. -/
theorem norm_pow_sub_pow_le {z w : ℂ} (hz : ‖z‖ = 1) (hw : ‖w‖ ≤ 1) (k : ℕ) :
    ‖z ^ k - w ^ k‖ ≤ k * ‖z - w‖ := by
  induction k with
  | zero => simp
  | succ k ih =>
    calc ‖z ^ (k + 1) - w ^ (k + 1)‖ = ‖z * (z ^ k - w ^ k) + (z - w) * w ^ k‖ := by ring_nf
      _ ≤ ‖z ^ k - w ^ k‖ + ‖z - w‖ * ‖w‖ ^ k := by
        simpa [hz] using norm_add_le (z * (z ^ k - w ^ k)) ((z - w) * w ^ k)
      _ ≤ k * ‖z - w‖ + ‖z - w‖ * 1 := by gcongr; exact pow_le_one₀ (norm_nonneg w) hw
      _ = (k + 1 : ℕ) * ‖z - w‖ := by push_cast; ring

/-- The rotation by one index of the table, exp(iπ/128). -/
noncomputable def rotation : ℂ := Complex.exp ((Real.pi / 128 : ℝ) * Complex.I)

theorem norm_rotation : ‖rotation‖ = 1 := Complex.norm_exp_ofReal_mul_I _

/-- The powers of the rotation give the angles of the table. -/
theorem im_rotation_pow (k : ℕ) : (rotation ^ k).im = Real.sin (2 * Real.pi * k / 256) := by
  have hangle : (k : ℂ) * ((Real.pi / 128 : ℝ) * Complex.I) = (2 * Real.pi * k / 256 : ℝ) * Complex.I := by
    push_cast
    ring
  rw [rotation, ← Complex.exp_nat_mul, hangle, Complex.exp_ofReal_mul_I_im]

/-- 10^10 times a rational point near the rotation: 1 - x²/2 and x - x³/6 at x = π/128. -/
def scaledPoint : GaussianInt := ⟨9996988036, 245412285⟩

/-- The rational point near the rotation. -/
noncomputable def rationalPoint : ℂ := scaledPoint / 10 ^ 10

theorem re_rationalPoint : rationalPoint.re = 0.9996988036 := by
  rw [rationalPoint, ← Complex.ofReal_ofNat, ← Complex.ofReal_pow, Complex.div_ofReal_re]
  norm_num [scaledPoint]

theorem im_rationalPoint : rationalPoint.im = 0.0245412285 := by
  rw [rationalPoint, ← Complex.ofReal_ofNat, ← Complex.ofReal_pow, Complex.div_ofReal_im]
  norm_num [scaledPoint]

theorem norm_rationalPoint_le : ‖rationalPoint‖ ≤ 1 := by
  rw [← sq_le_one_iff₀ (norm_nonneg _), Complex.sq_norm, Complex.normSq_apply, re_rationalPoint, im_rationalPoint]
  norm_num

/-- A rational value for the sine at index `k` of the table. -/
def sineApprox (k : ℕ) : ℚ := (scaledPoint ^ k).im / (10 ^ 10) ^ k

theorem im_rationalPoint_pow (k : ℕ) : (rationalPoint ^ k).im = sineApprox k := by
  have hpow : rationalPoint ^ k = ((scaledPoint ^ k : GaussianInt) : ℂ) / (((10 ^ 10) ^ k : ℝ) : ℂ) := by
    rw [rationalPoint, div_pow]
    simp
  rw [hpow, Complex.div_ofReal_im, ← GaussianInt.intCast_im, sineApprox]
  norm_num

theorem pi_div_128_bounds : 0.0245436926 ≤ Real.pi / 128 ∧ Real.pi / 128 ≤ 0.0245436927 := by
  have hlo := Real.pi_gt_d20
  have hhi := Real.pi_lt_d20
  constructor <;> linarith

/-- The quadratic Taylor bound at π/128. -/
theorem abs_cos_sub_re_rationalPoint_le : |Real.cos (Real.pi / 128) - rationalPoint.re| ≤ 2e-8 := by
  obtain ⟨hlo, hhi⟩ := pi_div_128_bounds
  have hx : |Real.pi / 128| ≤ 0.0245436927 := by rw [abs_of_pos (by linarith)]; exact hhi
  have hsqLo : (0.0245436926 : ℝ) ^ 2 ≤ (Real.pi / 128) ^ 2 := by gcongr
  have hsqHi : (Real.pi / 128) ^ 2 ≤ 0.0245436927 ^ 2 := by gcongr
  have htaylor := Real.cos_bound (x := Real.pi / 128) (by linarith)
  grw [hx] at htaylor
  rw [re_rationalPoint]
  rw [abs_le] at htaylor ⊢
  constructor <;> linarith

/-- The cubic Taylor bound at π/128. -/
theorem abs_sin_sub_im_rationalPoint_le : |Real.sin (Real.pi / 128) - rationalPoint.im| ≤ 1e-9 := by
  obtain ⟨hlo, hhi⟩ := pi_div_128_bounds
  have hx : |Real.pi / 128| ≤ 0.0245436927 := by rw [abs_of_pos (by linarith)]; exact hhi
  have hcubeLo : (0.0245436926 : ℝ) ^ 3 ≤ (Real.pi / 128) ^ 3 := by gcongr
  have hcubeHi : (Real.pi / 128) ^ 3 ≤ 0.0245436927 ^ 3 := by gcongr
  have htaylor := Real.sin_bound (x := Real.pi / 128) (by linarith)
  grw [hx] at htaylor
  rw [im_rationalPoint]
  rw [abs_le] at htaylor ⊢
  constructor <;> linarith

theorem norm_rotation_sub_rationalPoint_le : ‖rotation - rationalPoint‖ ≤ 2.1e-8 := by
  have hre : rotation.re = Real.cos (Real.pi / 128) := Complex.exp_ofReal_mul_I_re _
  have him : rotation.im = Real.sin (Real.pi / 128) := Complex.exp_ofReal_mul_I_im _
  grw [Complex.norm_le_abs_re_add_abs_im, Complex.sub_re, Complex.sub_im, hre, him,
    abs_cos_sub_re_rationalPoint_le, abs_sin_sub_im_rationalPoint_le]
  norm_num

/-- The rational value is off by at most 2.1e-8 for each index. -/
theorem abs_sin_sub_sineApprox_le (k : ℕ) :
    |Real.sin (2 * Real.pi * k / 256) - sineApprox k| ≤ k * 2.1e-8 := by
  rw [← im_rotation_pow, ← im_rationalPoint_pow, ← Complex.sub_im]
  calc |(rotation ^ k - rationalPoint ^ k).im| ≤ ‖rotation ^ k - rationalPoint ^ k‖ := Complex.abs_im_le_norm _
    _ ≤ k * ‖rotation - rationalPoint‖ := norm_pow_sub_pow_le norm_rotation norm_rationalPoint_le k
    _ ≤ k * 2.1e-8 := by grw [norm_rotation_sub_rationalPoint_le]

/-! ## Rounding (R61) -/

/-- What R61 rounds down for index `k`. -/
noncomputable def sineArg (k : ℕ) : ℝ := 127.5 + 127.5 * Real.sin (2 * Real.pi * k / 256) + 0.5

/-- `x` rounds down to `t` and lies 0.0055 inside the unit interval from `t`. -/
def RoundsDownTo (x : ℝ) (t : ℤ) : Prop := t + 0.0055 ≤ x ∧ x ≤ t + 1 - 0.0055

theorem RoundsDownTo.floor_eq {x : ℝ} {t : ℤ} (h : RoundsDownTo x t) : t = ⌊x⌋ := by
  obtain ⟨hlo, hhi⟩ := h
  exact (Int.floor_eq_iff.2 ⟨by linarith, by linarith⟩).symm

/-- An integer is at most `t` or at least `t + 1`. -/
theorem RoundsDownTo.margin {x : ℝ} {t : ℤ} (h : RoundsDownTo x t) (n : ℤ) : 0.0055 ≤ |x - n| := by
  obtain ⟨hlo, hhi⟩ := h
  rw [le_abs]
  obtain hn | hn : n ≤ t ∨ t + 1 ≤ n := by omega
  · have hn' : (n : ℝ) ≤ t := mod_cast hn
    left; linarith
  · have hn' : (t : ℝ) + 1 ≤ n := mod_cast hn
    right; linarith

theorem RoundsDownTo.reflect {x : ℝ} {t : ℤ} (h : RoundsDownTo x t) : RoundsDownTo (256 - x) (255 - t) := by
  obtain ⟨hlo, hhi⟩ := h
  constructor <;> push_cast <;> linarith

/-- sin(π - θ) = sin θ. -/
theorem sineArg_mirror {k : ℕ} (h : k ≤ 128) : sineArg (128 - k) = sineArg k := by
  have hangle : 2 * Real.pi * (128 - k : ℕ) / 256 = Real.pi - 2 * Real.pi * k / 256 := by
    push_cast [h]
    ring
  rw [sineArg, hangle, Real.sin_pi_sub, sineArg]

/-- sin(θ + π) = -sin θ. -/
theorem sineArg_complement (k : ℕ) : sineArg (128 + k) = 256 - sineArg k := by
  have hangle : 2 * Real.pi * (128 + k : ℕ) / 256 = 2 * Real.pi * k / 256 + Real.pi := by
    push_cast
    ring
  rw [sineArg, hangle, Real.sin_add_pi, sineArg]
  ring

/-- The entry of index `i` is R61's, with the margin. -/
def EntryRounds (i : Byte) : Prop := RoundsDownTo (sineArg i.toNat) (lutRead .sine i).toNat

/-- The check of the first quarter of the table against the rational values: the bound on their error fits inside the
margin. -/
theorem quarter_check : ∀ k : ℕ, k < 65 → 1 ≤ k →
    ((lutRead .sine (BitVec.ofNat 8 k)).toNat + 0.0055 ≤ 128 + 127.5 * (sineApprox k - k * 2.1e-8)) ∧
    (128 + 127.5 * (sineApprox k + k * 2.1e-8) ≤ (lutRead .sine (BitVec.ofNat 8 k)).toNat + 1 - 0.0055) := by
  decide +kernel

theorem entryRounds_quarter {i : Byte} (h1 : 1 ≤ i.toNat) (h64 : i.toNat ≤ 64) : EntryRounds i := by
  obtain ⟨hlo, hhi⟩ := quarter_check i.toNat (by omega) h1
  rw [BitVec.ofNat_toNat, BitVec.setWidth_eq] at hlo hhi
  replace hlo := (Rat.cast_le (K := ℝ)).2 hlo
  replace hhi := (Rat.cast_le (K := ℝ)).2 hhi
  push_cast at hlo hhi
  have herr := abs_le.1 (abs_sin_sub_sineApprox_le i.toNat)
  constructor <;> push_cast <;> unfold sineArg <;> linarith

theorem entryRounds_mirror {i : Byte} (h1 : 1 ≤ i.toNat) (h127 : i.toNat ≤ 127) (h : EntryRounds i) :
    EntryRounds (128 - i) := by
  have hidx : (128 - i).toNat = 128 - i.toNat := by bv_omega
  rw [EntryRounds, hidx, sineArg_mirror (by omega), lutRead_sine_mirror i h1 h127]
  exact h

theorem entryRounds_complement {i : Byte} (h1 : 1 ≤ i.toNat) (h127 : i.toNat ≤ 127) (h : EntryRounds i) :
    EntryRounds (128 + i) := by
  have hidx : (128 + i).toNat = 128 + i.toNat := by bv_omega
  have hle : (lutRead .sine i).toNat ≤ 255 := by omega
  rw [EntryRounds, hidx, sineArg_complement, lutRead_sine_complement i h1 h127, Nat.cast_sub hle]
  exact h.reflect

/-- The second quarter mirrors the first. -/
theorem entryRounds_half {i : Byte} (h1 : 1 ≤ i.toNat) (h127 : i.toNat ≤ 127) : EntryRounds i := by
  by_cases h64 : i.toNat ≤ 64
  · exact entryRounds_quarter h1 h64
  · have hmirror : EntryRounds (128 - i) := entryRounds_quarter (by bv_omega) (by bv_omega)
    simpa using entryRounds_mirror (by bv_omega) (by bv_omega) hmirror

/-- The second half is the complement of the first. -/
theorem entryRounds_of_ne {i : Byte} (h0 : i ≠ 0) (h128 : i ≠ 128) : EntryRounds i := by
  by_cases h127 : i.toNat ≤ 127
  · exact entryRounds_half (by bv_omega) h127
  · have hhalf : EntryRounds (i - 128) := entryRounds_half (by bv_omega) (by bv_omega)
    simpa using entryRounds_complement (by bv_omega) (by bv_omega) hhalf

/-- At the two ties the sine is 0, and the argument is the entry itself. -/
theorem floor_sineArg_tie {i : Byte} (h : i = 0 ∨ i = 128) :
    ((lutRead .sine i).toNat : ℤ) = ⌊sineArg i.toNat⌋ := by
  have hsin : Real.sin (2 * Real.pi * i.toNat / 256) = 0 := by
    obtain rfl | rfl := h
    · simp
    · have hangle : 2 * Real.pi * (128 : Byte).toNat / 256 = Real.pi := by
        rw [show (128 : Byte).toNat = 128 from rfl]
        push_cast
        ring
      rw [hangle, Real.sin_pi]
  have hentry : (lutRead .sine i).toNat = 128 := by obtain rfl | rfl := h <;> rfl
  rw [sineArg, hsin, hentry]
  norm_num

/-- Settles O44: away from the two ties every entry rounds with the margin, and at the ties the argument is 128. -/
theorem sineTableIsRoundedSine : Obligations.SineTableIsRoundedSine := by
  intro i
  refine ⟨?_, fun h0 h128 => (entryRounds_of_ne h0 h128).margin⟩
  by_cases htie : i = 0 ∨ i = 128
  · exact floor_sineArg_tie htie
  · obtain ⟨h0, h128⟩ := not_or.1 htie
    exact (entryRounds_of_ne h0 h128).floor_eq

end Sys2Proof.Machine

/-! PROOFS. An APPLY among TICKs (spec/20_memory.md R72, 41_configurator.md R150 to R157, 60_exceptions.md R204): what
stands at every turn between the write of CTRL.APPLY and its FACADE, and how many Sequencer turns are left. -/

namespace Sys2Proof.Machine

/-! ## One turn -/

/-- A run goes on from the state a step gives. -/
theorem run_succ_of_next {s t : State} (h : step s = .next t) (k : Nat) :
    Host.Core.run Sys2Proof.core (k + 1) s = Host.Core.run Sys2Proof.core k t := by
  have hcore : Sys2Proof.core.step s = .next t := h
  simp only [Host.Core.run, hcore]

/-- After a RESET a turn of the Sequencer is a micro-step. -/
theorem step_sequencer {s : State} {rest : List Turn} (ht : s.inp.turns = .sequencer :: rest)
    (hr : s.resetTaken = true) : step s = .next (microStep (dropTurn (restPorts s))) := by
  simp [step, nextMove, ht, hr]

/-- After a RESET a turn that offers TICK is taken at once, in the middle of an APPLY too (R72). -/
theorem step_tick {s : State} {rest : List Turn} (ht : s.inp.turns = .operation (encode .tick) :: rest)
    (hr : s.resetTaken = true) : step s = .next (takeTick (dropTurn (restPorts s))) := by
  rw [step_operation ht (decodeOp_encode rfl) rfl]
  exact exec_tick_eq_next_iff.2 ⟨hr, rfl⟩

/-- A TICK changes the block in `out` and `phase` alone, and leaves the turns. -/
theorem takeTick_frame (s : State) :
    (takeTick s).resetTaken = s.resetTaken ∧ (takeTick s).inp = s.inp ∧
    ∃ out phase, (takeTick s).blk = { s.blk with out := out, phase := phase } := by
  obtain ⟨table, -, -, h⟩ | ⟨-, h⟩ := takeTick_cases s
  · rw [h, playSample_eq]
    exact ⟨rfl, rfl, _, _, rfl⟩
  · rw [h]
    exact ⟨rfl, rfl, _, _, rfl⟩

/-- No micro-step changes a staging register (R140: they are read once, at the start). -/
theorem microStep_staging (s : State) :
    (microStep s).blk.reqTarget = s.blk.reqTarget ∧ (microStep s).blk.reqAmp = s.blk.reqAmp ∧
    (microStep s).blk.reqWave = s.blk.reqWave := by
  match hq : s.blk.seq with
  | .idle => simp [microStep_idle hq]
  | .busy job .disable pending =>
    rw [microStep_disable hq, seqDisable]
    cases job.mode <;> simp [stopTick_eq, disableDac_eq, disarmPulse_eq]
  | .busy job .fields [] => simp [microStep_fields hq, seqFields]
  | .busy job .fields (f :: rest) =>
    obtain ⟨k, -, -, hk⟩ := seqFields_cons job f rest s
    obtain ⟨hblk, -⟩ := drawPick_spec s
    simp [microStep_fields hq, hk, hblk]
  | .busy job .enableDac _ =>
    rw [microStep_enableDac hq]
    obtain ⟨-, h⟩ | ⟨-, -, h⟩ | ⟨-, -, h⟩ := seqEnableDac_cases job s <;> simp [h, faultFlags]
  | .busy job .enableTick _ =>
    rw [microStep_enableTick hq]
    obtain ⟨-, h⟩ | ⟨-, -, h⟩ | ⟨-, -, h⟩ := seqEnableTick_cases job s <;> simp [h, faultFlags]
  | .busy job .enablePulse _ =>
    rw [microStep_enablePulse hq]
    obtain ⟨-, h⟩ | ⟨-, -, h⟩ | ⟨-, -, h⟩ := seqEnablePulse_cases job s <;> simp [h, faultFlags]
  | .busy job .facade _ => simp [microStep_facade hq, seqFacade]

/-! ## Counting the faults -/

/-- How many SetupFail events have been recorded. -/
def State.fails (s : State) : Nat := s.obs.history.countP Event.isSetupFail

@[simp] theorem setBlock_fails (b : Block) (s : State) : (setBlock b s).fails = s.fails := rfl
@[simp] theorem setSeq_fails (q : Seq) (s : State) : (setSeq q s).fails = s.fails := rfl
@[simp] theorem toStage_fails (job : Job) (stage : Stage) (s : State) : (toStage job stage s).fails = s.fails := rfl

@[simp] theorem emit_fails (e : Event) (s : State) :
    (emit e s).fails = s.fails + if e.isSetupFail then 1 else 0 := by
  simp [State.fails, List.countP_singleton]

@[simp] theorem raiseSetupFault_fails (which : Peripheral) (s : State) :
    (raiseSetupFault which s).fails = s.fails + 1 := by
  simp [raiseSetupFault, Event.isSetupFail]

@[simp] theorem requestSetup_fails (which : Peripheral) (s : State) : (requestSetup which s).2.fails = s.fails := by
  simp [State.fails]

@[simp] theorem applyField_fails (f : FieldWrite) (s : State) : (applyField f s).fails = s.fails := by
  cases f <;> simp [applyField, Event.isSetupFail]

@[simp] theorem drawPick_fails (s : State) : (drawPick s).2.fails = s.fails := by
  obtain ⟨-, -, hobs, -⟩ := drawPick_spec s
  rw [State.fails, hobs, State.fails]

@[simp] theorem takeTick_fails (s : State) : (takeTick s).fails = s.fails := by
  obtain ⟨table, -, -, h⟩ | ⟨-, h⟩ := takeTick_cases s <;> simp [h, playSample, State.fails, Event.isSetupFail]

/-- DISABLE changes `seq` and the three enables, and records no fault. -/
theorem seqDisable_frame (job : Job) (pending : List FieldWrite) (s : State) :
    (seqDisable job pending s).fails = s.fails ∧
    (seqDisable job pending s).blk.setupFault = s.blk.setupFault ∧
    (seqDisable job pending s).blk.faultSrc = s.blk.faultSrc ∧
    (seqDisable job pending s).blk.seq = .busy job .fields pending ∧
    job.DriversClear (seqDisable job pending s).blk := by
  unfold seqDisable Job.DriversClear
  cases job.mode with
  | square =>
    cases ht : s.blk.tickEn <;> cases hd : s.blk.dacEn <;>
      simp [stopTick, disableDac, ht, hd, Event.isSetupFail]
  | cont step => cases hp : s.blk.pulseEn <;> simp [disarmPulse, hp, Event.isSetupFail]

/-! ## What stands while an APPLY is pending -/

/-- The job that an APPLY begun at `s` computes (R140, R149). -/
def State.requestedJob (s : State) : Job := configure s.blk.reqTarget s.blk.reqAmp s.blk.reqWave

/-- From `s` to `t` no setup has failed. -/
def NoFaultSince (s t : State) : Prop :=
  t.fails = s.fails ∧ t.blk.setupFault = s.blk.setupFault ∧ t.blk.faultSrc = s.blk.faultSrc

/-- From `s` to `t` one setup has failed. -/
def OneFaultSince (s t : State) : Prop := t.fails = s.fails + 1 ∧ t.blk.setupFault = true

/-- The output of the job's mode is enabled, and the other mode's is not (R204). -/
def Job.OutputOn (job : Job) (b : Block) : Prop :=
  match job.mode with
  | .cont _ => b.dacEn = true ∧ b.tickEn = true ∧ b.pulseEn = false
  | .square => b.dacEn = false ∧ b.tickEn = false ∧ b.pulseEn = true

/-- The ENABLE stages are over (R155, R156): one of them has failed, or the output is on. -/
def Job.EnableOver (job : Job) (s t : State) : Prop :=
  OneFaultSince s t ∨ (NoFaultSince s t ∧ job.OutputOn t.blk)

/-- The readback registers hold the job (R157). -/
def Job.InReadback (job : Job) (b : Block) : Prop :=
  b.curTarget = job.t ∧ b.curActual = job.actual ∧ b.curAmp = job.amp ∧ b.curWave = job.wave ∧ b.configured = true

/-- How many micro-steps the Sequencer takes at most until `seq` is Idle (R233). -/
def Seq.stepsLeft : Seq → Nat
  | .idle => 0
  | .busy _ .disable _ => 7
  | .busy _ .fields pending => pending.length + 3
  | .busy _ .enableDac _ => 3
  | .busy _ .enableTick _ => 2
  | .busy _ .enablePulse _ => 2
  | .busy _ .facade _ => 1

/-- What an APPLY begun at `s` has done when `seq` is `q`. -/
def Seq.Progress (q : Seq) (s t : State) : Prop :=
  match q with
  | .idle => s.requestedJob.InReadback t.blk ∧ s.requestedJob.EnableOver s t
  | .busy job .facade pending =>
    job = s.requestedJob ∧ StageInv job .facade pending t.blk ∧ job.EnableOver s t
  | .busy job stage pending => job = s.requestedJob ∧ StageInv job stage pending t.blk ∧ NoFaultSince s t

/-- What an APPLY begun at `s` has done at `t`, where it needs at most `n` more micro-steps. -/
def StageProgress (s t : State) (n : Nat) : Prop := t.blk.seq.Progress s t ∧ t.blk.seq.stepsLeft ≤ n

/-- `t` stands in, or after, the APPLY begun at `s`. -/
structure ApplyProgress (s t : State) (n : Nat) : Prop where
  reset_taken : t.resetTaken = true
  history : s.obs.history <+: t.obs.history
  req_target : t.blk.reqTarget = s.blk.reqTarget
  req_amp : t.blk.reqAmp = s.blk.reqAmp
  req_wave : t.blk.reqWave = s.blk.reqWave
  stage : StageProgress s t n

theorem NoFaultSince.trans {s t u : State} (h : NoFaultSince s t) (h' : NoFaultSince t u) : NoFaultSince s u := by
  obtain ⟨hfails, hfault, hsrc⟩ := h
  obtain ⟨hfails', hfault', hsrc'⟩ := h'
  exact ⟨hfails'.trans hfails, hfault'.trans hfault, hsrc'.trans hsrc⟩

/-- A setup that fails for the first time since `s`. -/
theorem NoFaultSince.oneFault {s t u : State} (h : NoFaultSince s t) (hfails : u.fails = t.fails + 1)
    (hfault : u.blk.setupFault = true) : OneFaultSince s u :=
  ⟨by rw [hfails, h.1], hfault⟩

theorem Job.driversClear_iff_of_cont {job : Job} (hmode : job.mode ≠ .square) (b : Block) :
    job.DriversClear b ↔ b.pulseEn = false := by
  unfold Job.DriversClear
  cases hm : job.mode with
  | square => exact absurd hm hmode
  | cont step => rfl

theorem Job.driversClear_iff_of_square {job : Job} (hmode : job.mode = .square) (b : Block) :
    job.DriversClear b ↔ b.tickEn = false ∧ b.dacEn = false := by
  simp [Job.DriversClear, hmode]

theorem Job.outputOn_iff_of_cont {job : Job} (hmode : job.mode ≠ .square) (b : Block) :
    job.OutputOn b ↔ b.dacEn = true ∧ b.tickEn = true ∧ b.pulseEn = false := by
  unfold Job.OutputOn
  cases hm : job.mode with
  | square => exact absurd hm hmode
  | cont step => rfl

theorem Job.outputOn_iff_of_square {job : Job} (hmode : job.mode = .square) (b : Block) :
    job.OutputOn b ↔ b.dacEn = false ∧ b.tickEn = false ∧ b.pulseEn = true := by
  simp [Job.OutputOn, hmode]

theorem Seq.eq_idle_of_stepsLeft {q : Seq} (h : q.stepsLeft = 0) : q = .idle := by
  match q with
  | .idle => rfl
  | .busy _ .disable _ | .busy _ .fields _ | .busy _ .enableDac _ | .busy _ .enableTick _
  | .busy _ .enablePulse _ | .busy _ .facade _ => simp [Seq.stepsLeft] at h

theorem fieldsOf_length (job : Job) : (fieldsOf job).length = 3 := by
  unfold fieldsOf
  cases job.mode <;> rfl

/-! ## Micro-steps -/

section
variable {s t : State} {job : Job} {stage : Stage} {pending : List FieldWrite} {n : Nat}

theorem stageProgress_iff {q : Seq} (hq : t.blk.seq = q) :
    StageProgress s t n ↔ q.Progress s t ∧ q.stepsLeft ≤ n := by
  rw [StageProgress, hq]

/-- DISABLE clears the other mode's drivers, and leaves the three field writes. -/
theorem stageProgress_disable (hq : t.blk.seq = .busy job .disable pending) (h : StageProgress s t (n + 1)) :
    StageProgress s (seqDisable job pending t) n := by
  obtain ⟨⟨hjob, rfl, hno⟩, hn⟩ := (stageProgress_iff hq).1 h
  obtain ⟨hfails, hfault, hsrc, hseq, hclear⟩ := seqDisable_frame job (fieldsOf job) t
  refine (stageProgress_iff hseq).2 ⟨⟨hjob, ?_, hno.trans ⟨hfails, hfault, hsrc⟩⟩, ?_⟩
  · exact ⟨fieldsOf_ne_nil job, List.Sublist.refl _, hclear⟩
  · rw [Seq.stepsLeft, fieldsOf_length]
    exact Nat.le_of_succ_le_succ hn

/-- Where FIELDS leaves the Sequencer: at FIELDS while a write is pending, else at the mode's ENABLE stage (R153). -/
theorem stageProgress_afterFields (hq : t.blk.seq = afterFields job pending) (hjob : job = s.requestedJob)
    (hsub : pending.Sublist (fieldsOf job)) (hclear : job.DriversClear t.blk) (hno : NoFaultSince s t)
    (hn : pending.length + 3 ≤ n) : StageProgress s t n := by
  match pending with
  | f :: rest => exact (stageProgress_iff hq).2 ⟨⟨hjob, ⟨List.cons_ne_nil f rest, hsub, hclear⟩, hno⟩, hn⟩
  | [] =>
    rw [afterFields, enableStage] at hq
    cases hmode : job.mode with
    | square =>
      rw [hmode] at hq
      exact (stageProgress_iff hq).2 ⟨⟨hjob, ⟨rfl, hclear, hmode⟩, hno⟩, (Nat.le_succ 2).trans hn⟩
    | cont step =>
      rw [hmode] at hq
      exact (stageProgress_iff hq).2 ⟨⟨hjob, ⟨rfl, hclear, by simp [hmode]⟩, hno⟩, hn⟩

/-- FIELDS makes one of the pending writes, whichever is picked. -/
theorem stageProgress_fields (hq : t.blk.seq = .busy job .fields pending) (h : StageProgress s t (n + 1)) :
    StageProgress s (seqFields job pending t) n := by
  obtain ⟨⟨hjob, ⟨hne, hsub, hclear⟩, hno⟩, hn⟩ := (stageProgress_iff hq).1 h
  obtain ⟨f, rest, rfl⟩ := List.exists_cons_of_ne_nil hne
  obtain ⟨k, hk, -, heq⟩ := seqFields_cons job f rest t
  obtain ⟨hblk, -⟩ := drawPick_spec t
  rw [heq]
  refine stageProgress_afterFields (by simp) hjob (((f :: rest).eraseIdx_sublist k).trans hsub) ?_ (hno.trans ?_) ?_
  · exact hclear.congr (by simp [hblk]) (by simp [hblk]) (by simp [hblk])
  · simp [NoFaultSince, hblk]
  · rw [Seq.stepsLeft] at hn
    rw [List.length_eraseIdx_of_lt hk]
    omega

/-- R200: a setup request that fails sends the Sequencer to FACADE with one fault. -/
theorem stageProgress_of_fail (which : Peripheral) (hjob : job = s.requestedJob) (hclear : job.DriversClear t.blk)
    (hno : NoFaultSince s t) (hn : 1 ≤ n) :
    StageProgress s (toStage job .facade (raiseSetupFault which (requestSetup which t).2)) n := by
  refine (stageProgress_iff rfl).2 ⟨⟨hjob, ⟨rfl, ?_⟩, .inl (hno.oneFault ?_ rfl)⟩, hn⟩
  · exact hclear.congr (by simp [faultFlags]) (by simp [faultFlags]) (by simp [faultFlags])
  · simp

/-- The last ENABLE stage goes to FACADE with the output on. -/
theorem stageProgress_of_outputOn (hq : t.blk.seq = .busy job .facade []) (hjob : job = s.requestedJob)
    (hclear : job.DriversClear t.blk) (hno : NoFaultSince s t) (hon : job.OutputOn t.blk) (hn : 1 ≤ n) :
    StageProgress s t n :=
  (stageProgress_iff hq).2 ⟨⟨hjob, ⟨rfl, hclear⟩, .inr ⟨hno, hon⟩⟩, hn⟩

/-- ENABLE_DAC goes on with the DAC on, or fails. -/
theorem stageProgress_enableDac (hq : t.blk.seq = .busy job .enableDac pending) (h : StageProgress s t (n + 1)) :
    StageProgress s (seqEnableDac job t) n := by
  obtain ⟨⟨hjob, ⟨-, hclear, hmode⟩, hno⟩, hn⟩ := (stageProgress_iff hq).1 h
  have hpulse := (job.driversClear_iff_of_cont hmode _).1 hclear
  have hn2 : 2 ≤ n := Nat.le_of_succ_le_succ hn
  obtain ⟨hen, heq⟩ | ⟨-, -, heq⟩ | ⟨-, -, heq⟩ := seqEnableDac_cases job t <;> rw [heq]
  · exact (stageProgress_iff rfl).2 ⟨⟨hjob, ⟨rfl, hclear, hmode, hen⟩, hno⟩, hn2⟩
  · refine (stageProgress_iff rfl).2 ⟨⟨hjob, ⟨rfl, ?_, hmode, rfl⟩, hno.trans ?_⟩, hn2⟩
    · exact (job.driversClear_iff_of_cont hmode _).2 hpulse
    · simp [NoFaultSince, Event.isSetupFail]
  · exact stageProgress_of_fail .dac hjob hclear hno (by omega)

/-- ENABLE_TICK completes the output of a continuous job, or fails. -/
theorem stageProgress_enableTick (hq : t.blk.seq = .busy job .enableTick pending) (h : StageProgress s t (n + 1)) :
    StageProgress s (seqEnableTick job t) n := by
  obtain ⟨⟨hjob, ⟨-, hclear, hmode, hdac⟩, hno⟩, hn⟩ := (stageProgress_iff hq).1 h
  have hpulse := (job.driversClear_iff_of_cont hmode _).1 hclear
  have hn1 : 1 ≤ n := Nat.le_of_succ_le_succ hn
  obtain ⟨hen, heq⟩ | ⟨-, -, heq⟩ | ⟨-, -, heq⟩ := seqEnableTick_cases job t <;> rw [heq]
  · exact stageProgress_of_outputOn rfl hjob hclear hno ((job.outputOn_iff_of_cont hmode _).2 ⟨hdac, hen, hpulse⟩) hn1
  · refine stageProgress_of_outputOn rfl hjob ?_ (hno.trans ?_) ?_ hn1
    · exact (job.driversClear_iff_of_cont hmode _).2 hpulse
    · simp [NoFaultSince, Event.isSetupFail]
    · exact (job.outputOn_iff_of_cont hmode _).2 ⟨hdac, rfl, hpulse⟩
  · exact stageProgress_of_fail .tickTimer hjob hclear hno hn1

/-- ENABLE_PULSE makes the output of a square job, or fails. -/
theorem stageProgress_enablePulse (hq : t.blk.seq = .busy job .enablePulse pending) (h : StageProgress s t (n + 1)) :
    StageProgress s (seqEnablePulse job t) n := by
  obtain ⟨⟨hjob, ⟨-, hclear, hmode⟩, hno⟩, hn⟩ := (stageProgress_iff hq).1 h
  obtain ⟨htick, hdac⟩ := (job.driversClear_iff_of_square hmode _).1 hclear
  have hn1 : 1 ≤ n := Nat.le_of_succ_le_succ hn
  obtain ⟨hen, heq⟩ | ⟨-, -, heq⟩ | ⟨-, -, heq⟩ := seqEnablePulse_cases job t <;> rw [heq]
  · exact stageProgress_of_outputOn rfl hjob hclear hno ((job.outputOn_iff_of_square hmode _).2 ⟨hdac, htick, hen⟩) hn1
  · refine stageProgress_of_outputOn rfl hjob ?_ (hno.trans ?_) ?_ hn1
    · exact (job.driversClear_iff_of_square hmode _).2 ⟨htick, hdac⟩
    · simp [NoFaultSince, Event.isSetupFail]
    · exact (job.outputOn_iff_of_square hmode _).2 ⟨hdac, htick, rfl⟩
  · exact stageProgress_of_fail .pulse hjob hclear hno hn1

/-- FACADE writes the readback registers, and leaves the outputs and the fault flags as they are. -/
theorem stageProgress_facade (hq : t.blk.seq = .busy job .facade pending) (h : StageProgress s t (n + 1)) :
    StageProgress s (seqFacade job t) n := by
  obtain ⟨⟨rfl, -, hover⟩, -⟩ := (stageProgress_iff hq).1 h
  exact (stageProgress_iff rfl).2 ⟨⟨⟨rfl, rfl, rfl, rfl, rfl⟩, hover⟩, Nat.zero_le n⟩

/-- Every micro-step brings the APPLY one micro-step nearer to its end; after it the Sequencer does nothing. -/
theorem stageProgress_microStep (h : StageProgress s t (n + 1)) : StageProgress s (microStep t) n := by
  match hq : t.blk.seq with
  | .idle =>
    rw [microStep_idle hq]
    exact (stageProgress_iff hq).2 ⟨((stageProgress_iff hq).1 h).1, Nat.zero_le n⟩
  | .busy job .disable pending => rw [microStep_disable hq]; exact stageProgress_disable hq h
  | .busy job .fields pending => rw [microStep_fields hq]; exact stageProgress_fields hq h
  | .busy job .enableDac _ => rw [microStep_enableDac hq]; exact stageProgress_enableDac hq h
  | .busy job .enableTick _ => rw [microStep_enableTick hq]; exact stageProgress_enableTick hq h
  | .busy job .enablePulse _ => rw [microStep_enablePulse hq]; exact stageProgress_enablePulse hq h
  | .busy job .facade _ => rw [microStep_facade hq]; exact stageProgress_facade hq h

end

/-! ## Turns -/

section
variable {s t u : State} {n : Nat}

theorem StageProgress.mono {m : Nat} (h : StageProgress s t n) (hle : n ≤ m) : StageProgress s t m := by
  obtain ⟨hprogress, hn⟩ := h
  exact ⟨hprogress, hn.trans hle⟩

/-- No invariant of a stage speaks of `out` or `phase`. -/
theorem StageInv.congr {job : Job} {stage : Stage} {pending : List FieldWrite} {b : Block} {out phase : Byte}
    (h : StageInv job stage pending b) : StageInv job stage pending { b with out := out, phase := phase } := by
  cases stage <;> exact h

theorem Job.EnableOver.trans {job : Job} (h : job.EnableOver s t) (hno : NoFaultSince t u)
    (hon : job.OutputOn t.blk → job.OutputOn u.blk) : job.EnableOver s u := by
  obtain ⟨hfails, hfault⟩ | ⟨hno', hon'⟩ := h
  · obtain ⟨hfails', hfault', -⟩ := hno
    exact .inl ⟨hfails'.trans hfails, hfault'.trans hfault⟩
  · exact .inr ⟨hno'.trans hno, hon hon'⟩

/-- `out` and `phase`, which a TICK changes, are no part of the progress (R72). -/
theorem StageProgress.congr {out phase : Byte} (h : StageProgress s t n) (hfails : u.fails = t.fails)
    (hblk : u.blk = { t.blk with out := out, phase := phase }) : StageProgress s u n := by
  have hno : NoFaultSince t u := ⟨hfails, by rw [hblk], by rw [hblk]⟩
  have hon {job : Job} (h : job.OutputOn t.blk) : job.OutputOn u.blk := hblk ▸ h
  have hseq : u.blk.seq = t.blk.seq := by rw [hblk]
  match hq : t.blk.seq with
  | .idle =>
    obtain ⟨⟨hread, hover⟩, hn⟩ := (stageProgress_iff hq).1 h
    exact (stageProgress_iff (hseq.trans hq)).2 ⟨⟨hblk ▸ hread, hover.trans hno hon⟩, hn⟩
  | .busy job .facade pending =>
    obtain ⟨⟨hjob, hinv, hover⟩, hn⟩ := (stageProgress_iff hq).1 h
    exact (stageProgress_iff (hseq.trans hq)).2 ⟨⟨hjob, hblk ▸ hinv.congr, hover.trans hno hon⟩, hn⟩
  | .busy job .disable pending | .busy job .fields pending | .busy job .enableDac pending
  | .busy job .enableTick pending | .busy job .enablePulse pending =>
    obtain ⟨⟨hjob, hinv, hno'⟩, hn⟩ := (stageProgress_iff hq).1 h
    exact (stageProgress_iff (hseq.trans hq)).2 ⟨⟨hjob, hblk ▸ hinv.congr, hno'.trans hno⟩, hn⟩

theorem applyProgress_microStep (h : ApplyProgress s t (n + 1)) : ApplyProgress s (microStep t) n := by
  obtain ⟨hr, hhist, htarget, hamp, hwave, hstage⟩ := h
  obtain ⟨hr', -, -⟩ := microStep_frame t
  obtain ⟨htarget', hamp', hwave'⟩ := microStep_staging t
  exact ⟨hr'.trans hr, hhist.trans (microStep_history_prefix t), htarget'.trans htarget, hamp'.trans hamp,
    hwave'.trans hwave, stageProgress_microStep hstage⟩

theorem applyProgress_takeTick (h : ApplyProgress s t n) : ApplyProgress s (takeTick t) n := by
  obtain ⟨hr, hhist, htarget, hamp, hwave, hstage⟩ := h
  obtain ⟨hr', -, out, phase, hblk⟩ := takeTick_frame t
  obtain ⟨hhist', -⟩ := recordedBefore_takeTick t
  exact ⟨hr'.trans hr, hhist.trans hhist', by rw [hblk, htarget], by rw [hblk, hamp], by rw [hblk, hwave],
    hstage.congr (takeTick_fails t) hblk⟩

/-- Taking a turn off the list and resting the ports are no part of the APPLY. -/
theorem applyProgress_dropTurn (h : ApplyProgress s t n) : ApplyProgress s (dropTurn (restPorts t)) n := by
  obtain ⟨hr, hhist, htarget, hamp, hwave, hstage⟩ := h
  exact ⟨hr, hhist, htarget, hamp, hwave, hstage.congr rfl rfl⟩

end

/-- By induction on the turns: with as many turns of the Sequencer as the APPLY needs, it is over when all are taken. -/
theorem run_turns_applyProgress (s : State) (turns : List Turn) : ∀ t : State, t.inp.turns = turns →
    (∀ u ∈ turns, u = .sequencer ∨ u = .operation (encode .tick)) →
    ApplyProgress s t (turns.count .sequencer) →
    ∃ u, Host.Core.run Sys2Proof.core turns.length t = .next u ∧ u.inp.turns = [] ∧ ApplyProgress s u 0 := by
  induction turns with
  | nil => exact fun t ht _ h => ⟨t, rfl, ht, h⟩
  | cons turn rest ih =>
    intro t ht hturns h
    obtain ⟨hturn, hrest⟩ := List.forall_mem_cons.1 hturns
    have hdrop : (dropTurn (restPorts t)).inp.turns = rest := by simp [ht]
    obtain rfl | rfl := hturn
    · rw [List.count_cons_self] at h
      rw [List.length_cons, run_succ_of_next (step_sequencer ht h.reset_taken)]
      obtain ⟨-, hframe, -⟩ := microStep_frame (dropTurn (restPorts t))
      exact ih _ (hframe.trans hdrop) hrest (applyProgress_microStep (applyProgress_dropTurn h))
    · rw [List.count_cons_of_ne (by simp)] at h
      rw [List.length_cons, run_succ_of_next (step_tick ht h.reset_taken)]
      obtain ⟨-, hframe, -⟩ := takeTick_frame (dropTurn (restPorts t))
      exact ih _ (by rw [hframe, hdrop]) hrest (applyProgress_takeTick (applyProgress_dropTurn h))

/-! ## The whole APPLY -/

/-- Writing CTRL.APPLY = 1 from an accepting state starts the APPLY (R116, R140). -/
theorem step_apply {s : State} {rest : List Turn} (h : s.Accepts)
    (ht : s.inp.turns = .operation (encode (.wrCtrl true)) :: rest) :
    step s = .next (startApply (dropTurn (restPorts s))) := by
  rw [step_operation ht (decodeOp_encode rfl) (holds_of_idle _ h.idle)]
  exact hostAccept_idle h.reset_taken h.idle

/-- Right after its start seven micro-steps are left (R233). -/
theorem applyProgress_startApply {s : State} (hr : s.resetTaken = true) :
    ApplyProgress s (startApply (dropTurn (restPorts s))) 7 :=
  ⟨hr, List.prefix_refl _, rfl, rfl, rfl, (stageProgress_iff rfl).2 ⟨⟨rfl, rfl, rfl, rfl, rfl⟩, le_rfl⟩⟩

/-- What the whole APPLY has done to the fault flags and the enables, by the events it has recorded. -/
theorem Job.EnableOver.events {job : Job} {s t : State} {es : List Event} (h : job.EnableOver s t)
    (hes : t.obs.history = s.obs.history ++ es) :
    es.countP Event.isSetupFail ≤ 1 ∧
    (es.countP Event.isSetupFail = 1 → t.blk.setupFault = true) ∧
    (es.countP Event.isSetupFail = 0 → NoFaultSince s t ∧ job.OutputOn t.blk) := by
  have hcount : t.fails = s.fails + es.countP Event.isSetupFail := by simp [State.fails, hes]
  obtain ⟨hone, hfault⟩ | ⟨hno, hon⟩ := h
  · exact ⟨by omega, fun _ => hfault, fun hzero => by omega⟩
  · have hzero := hno.1
    exact ⟨by omega, fun hone => by omega, fun _ => ⟨hno, hon⟩⟩

/-- Settles O55: seven micro-steps are left at the start, every turn of the Sequencer takes one and a TICK none, so the
APPLY is over when the turns are, and the stages have kept account of the faults. -/
theorem applyAmongTicks : Obligations.ApplyAmongTicks := by
  intro s turns haccepts ht hturns hcount
  have hstart := applyProgress_startApply haccepts.reset_taken
  obtain ⟨t, hrun, htaken, hr, ⟨es, hes⟩, htarget, hamp, hwave, hstage⟩ :=
    run_turns_applyProgress s turns (startApply (dropTurn (restPorts s))) (by simp [ht]) hturns
      { hstart with stage := hstart.stage.mono hcount }
  have hidle : t.blk.seq = .idle := Seq.eq_idle_of_stepsLeft (Nat.le_zero.1 hstage.2)
  obtain ⟨⟨⟨hcurTarget, hcurActual, hcurAmp, hcurWave, hconf⟩, hover⟩, -⟩ := (stageProgress_iff hidle).1 hstage
  obtain ⟨hle, hone, hzero⟩ := hover.events hes.symm
  refine ⟨t, es, ?_, ⟨hr, hidle⟩, htaken, hcurTarget, hcurActual, hcurAmp, ?_, hconf, htarget, hamp, hwave, hes.symm,
    hle, hone, fun hnone => ?_⟩
  · rw [run_succ_of_next (step_apply haccepts ht), hrun]
  · rw [hcurWave, State.requestedJob, configure_wave]
  · obtain ⟨⟨-, hfault, hsrc⟩, hon⟩ := hzero hnone
    have hmode := configure_mode_square_iff s.blk.reqTarget s.blk.reqAmp s.blk.reqWave
    exact ⟨hfault, hsrc, fun hcont => (Job.outputOn_iff_of_cont (hmode.not.2 hcont) _).1 hon,
      fun hsquare => (Job.outputOn_iff_of_square (hmode.2 hsquare) _).1 hon⟩

end Sys2Proof.Machine

/-! PROOFS. The encoding (spec/30_encoding.md R80 to R90): what the decoder does with the words of each format, that it and
the encoder agree, which codes are reserved, and what the lines of APPLY assemble to. -/

namespace Sys2Proof

/-! ## The four formats -/

/-- A word has one of the four formats of R81, and in it an index and data (R80). -/
theorem opWord_format_cases {P : OpWord → Prop} (busRd : ∀ idx data, P (opWord (readOp idx) data))
    (busWr : ∀ idx data, P (opWord (writeOp idx) data)) (evt : ∀ (idx : SlotIx) data, P (opWord (2#2 ++ idx) data))
    (reserved : ∀ (idx : SlotIx) data, P (opWord (3#2 ++ idx) data)) (w : OpWord) : P w := by
  have hop : ∀ op : BitVec 6, op = readOp (op.extractLsb' 0 4) ∨ op = writeOp (op.extractLsb' 0 4) ∨
      op = 2#2 ++ op.extractLsb' 0 4 ∨ op = 3#2 ++ op.extractLsb' 0 4 := by decide
  rw [← opWord_fields w]
  obtain h | h | h | h := hop (opField w) <;> rw [h]
  · exact busRd _ _
  · exact busWr _ _
  · exact evt _ _
  · exact reserved _ _

/-- In a code `{kind, idx}` the decoder finds `kind` and `idx` (R81). -/
theorem decodeOp_kind_idx (kind : BitVec 2) (idx : SlotIx) (data : Word) :
    decodeOp (opWord (kind ++ idx) data) =
      if kind = 0#2 then .ok (decodeRead idx)
      else if kind = 1#2 then .ok (decodeWrite idx data)
      else if kind = 2#2 then decodeEvent idx
      else .error (.reservedFormat idx) := by
  have hkind : (kind ++ idx).extractLsb' 4 2 = kind := by revert kind idx; decide
  have hidx : (kind ++ idx).extractLsb' 0 4 = idx := by revert kind idx; decide
  rw [decodeOp_opWord, hkind, hidx]

@[simp] theorem decodeOp_busRd (slot : SlotIx) (data : Word) :
    decodeOp (opWord (readOp slot) data) = .ok (decodeRead slot) :=
  decodeOp_kind_idx 0#2 slot data

@[simp] theorem decodeOp_busWr (slot : SlotIx) (data : Word) :
    decodeOp (opWord (writeOp slot) data) = .ok (decodeWrite slot data) :=
  decodeOp_kind_idx 1#2 slot data

@[simp] theorem decodeOp_evt (event : SlotIx) (data : Word) :
    decodeOp (opWord (2#2 ++ event) data) = decodeEvent event :=
  decodeOp_kind_idx 2#2 event data

@[simp] theorem decodeOp_reserved (idx : SlotIx) (data : Word) :
    decodeOp (opWord (3#2 ++ idx) data) = .error (.reservedFormat idx) :=
  decodeOp_kind_idx 3#2 idx data

/-! ## The write slots -/

/-- Slots 4..15 are none of the four named ones (R86). -/
theorem decodeWrite_ignored {slot : SlotIx} (data : Word) (h : 4 ≤ slot.toNat) :
    decodeWrite slot data = if slot.toNat < 8 then .wrIgnoredLo slot else .wrIgnoredHi slot := by
  have hnamed : slot ≠ 0#4 ∧ slot ≠ 1#4 ∧ slot ≠ 2#4 ∧ slot ≠ 3#4 := by bv_omega
  simp [decodeWrite, hnamed]

theorem decodeWrite_ignoredLo {slot : SlotIx} (data : Word) (hlo : 4 ≤ slot.toNat) (hhi : slot.toNat ≤ 7) :
    decodeWrite slot data = .wrIgnoredLo slot :=
  (decodeWrite_ignored data hlo).trans (if_pos (by omega))

theorem decodeWrite_ignoredHi {slot : SlotIx} (data : Word) (h : 8 ≤ slot.toNat) :
    decodeWrite slot data = .wrIgnoredHi slot :=
  (decodeWrite_ignored data (by omega)).trans (if_neg (by omega))

/-- Slot 3 takes the wave whose code stands in bits [1:0] (R84). -/
theorem decodeWrite_reqWave {data : Word} {wave : Wave} (h : data.extractLsb' 0 2 = waveCode wave) :
    decodeWrite 3#4 data = .wrReqWave wave := by
  change Instr.wrReqWave (waveOfCode (data.extractLsb' 0 2)) = _
  rw [h, waveOfCode_waveCode]

/-! ## What the decoder gives has the code it read -/

theorem decodeRead_keeps_code (slot : SlotIx) :
    (decodeRead slot).WellFormed ∧ opField (encode (decodeRead slot)) = readOp slot := by
  revert slot; decide

/-- The four named slots have their own codes; slots 4..15 keep the slot as operand, in the range of its row. -/
theorem decodeWrite_keeps_code (slot : SlotIx) (data : Word) :
    (decodeWrite slot data).WellFormed ∧ opField (encode (decodeWrite slot data)) = writeOp slot := by
  obtain (rfl | rfl | rfl | rfl) | ⟨hlo, hhi⟩ | hhi : (slot = 0#4 ∨ slot = 1#4 ∨ slot = 2#4 ∨ slot = 3#4) ∨
      (4 ≤ slot.toNat ∧ slot.toNat ≤ 7) ∨ 8 ≤ slot.toNat := by bv_omega
  · exact ⟨rfl, opField_opWord 0x10#6 _⟩
  · exact ⟨rfl, opField_opWord 0x11#6 _⟩
  · exact ⟨rfl, opField_opWord 0x12#6 _⟩
  · exact ⟨rfl, opField_opWord 0x13#6 _⟩
  · rw [decodeWrite_ignoredLo data hlo hhi]
    exact ⟨by simp [Instr.WellFormed, Instr.wellFormed, hlo, hhi], opField_opWord _ _⟩
  · rw [decodeWrite_ignoredHi data hhi]
    exact ⟨by simp [Instr.WellFormed, Instr.wellFormed, hhi], opField_opWord _ _⟩

/-- Events 0 and 1 are the two operations TICK and RESET (R83). -/
theorem decodeEvent_ok {event : SlotIx} {i : Instr} (h : decodeEvent event = .ok i) :
    (event = 0#4 ∧ i = .tick) ∨ (event = 1#4 ∧ i = .reset) := by
  unfold decodeEvent at h
  split_ifs at h with h0 h1
  · exact .inl ⟨h0, (Except.ok.inj h).symm⟩
  · exact .inr ⟨h1, (Except.ok.inj h).symm⟩

/-! ## The reserved codes -/

/-- Events 2..15 are reserved (R87). -/
theorem decodeEvent_error_iff (event : SlotIx) : (∃ e, decodeEvent event = .error e) ↔ 2 ≤ event.toNat := by
  obtain rfl | rfl | h : event = 0#4 ∨ event = 1#4 ∨ 2 ≤ event.toNat := by bv_omega
  · simp [decodeEvent]
  · simp [decodeEvent]
  · have hnamed : event ≠ 0#4 ∧ event ≠ 1#4 := by bv_omega
    simp [decodeEvent, hnamed, h]

/-- The codes that spell no operation are events 2..15 and the format 11 (R87), which are the codes from 0x22 on. -/
theorem decodeOp_error_iff (w : OpWord) : (∃ e, decodeOp w = .error e) ↔ 0x22 ≤ (opField w).toNat := by
  induction w using opWord_format_cases with
  | busRd slot data =>
    have hop : ¬ 0x22 ≤ (readOp slot).toNat := by revert slot; decide
    simp [hop]
  | busWr slot data =>
    have hop : ¬ 0x22 ≤ (writeOp slot).toNat := by revert slot; decide
    simp [hop]
  | evt event data =>
    have hop : 0x22 ≤ (2#2 ++ event).toNat ↔ 2 ≤ event.toNat := by revert event; decide
    rw [decodeOp_evt, opField_opWord, hop, decodeEvent_error_iff]
  | reserved idx data =>
    have hop : 0x22 ≤ (3#2 ++ idx).toNat := by revert idx; decide
    simp [hop]

end Sys2Proof

namespace Sys2Proof.Machine

/-! ## The obligations on the words -/

/-- Settles O1. -/
theorem decodeEncodeRoundTrip : Obligations.DecodeEncodeRoundTrip := fun _ hi => decodeOp_encode hi

/-- Settles O2, format by format. -/
theorem decodedWordKeepsOpcode : Obligations.DecodedWordKeepsOpcode := by
  intro w i h
  induction w using opWord_format_cases with
  | busRd slot data =>
    obtain rfl : decodeRead slot = i := by simpa using h
    simpa using decodeRead_keeps_code slot
  | busWr slot data =>
    obtain rfl : decodeWrite slot data = i := by simpa using h
    simpa using decodeWrite_keeps_code slot data
  | evt event data =>
    rw [decodeOp_evt] at h
    rw [opField_opWord]
    obtain ⟨rfl, rfl⟩ | ⟨rfl, rfl⟩ := decodeEvent_ok h
    · exact ⟨rfl, opField_opWord 0x20#6 _⟩
    · exact ⟨rfl, opField_opWord 0x21#6 _⟩
  | reserved idx data => simp at h

/-- Settles O3: the reads and events by their format, REQ_WAVE by its wave code, slots 4..15 by their range. -/
theorem opcodeMapDecodes : Obligations.OpcodeMapDecodes := by
  have hread (slot : SlotIx) : SpelledBy (readOp slot) (decodeRead slot) := decodeOp_busRd slot
  have hwave (d : Word) (wave : Wave) (h : d.extractLsb' 0 2 = waveCode wave) :
      decodeOp (opWord 0x13#6 d) = .ok (.wrReqWave wave) :=
    (decodeOp_busWr 3#4 d).trans (congrArg _ (decodeWrite_reqWave h))
  exact ⟨hread 0#4, hread 1#4, hread 2#4, hread 3#4, hread 4#4, hread 5#4, hread 6#4, hread 7#4, hread 8#4, hread 9#4,
    hread 10#4, hread 11#4, hread 12#4, hread 13#4, hread 14#4, hread 15#4,
    decodeOp_busWr 0#4, decodeOp_busWr 1#4, decodeOp_busWr 2#4,
    fun d => hwave d .sine, fun d => hwave d .triangle, fun d => hwave d .sawtooth, fun d => hwave d .square,
    fun d wave h => hwave d wave h.symm,
    fun slot hlo hhi d => (decodeOp_busWr slot d).trans (congrArg _ (decodeWrite_ignoredLo d hlo hhi)),
    fun slot h d => (decodeOp_busWr slot d).trans (congrArg _ (decodeWrite_ignoredHi d h)),
    decodeOp_evt 0#4, decodeOp_evt 1#4⟩

/-- R87: a step offered a word that spells no operation is refused. -/
theorem step_undecoded {s : State} {w : OpWord} {e : DecodeError} (hoffered : s.Offered w)
    (he : decodeOp w = .error e) : step s = .refused (refusalOf e) := by
  obtain ⟨rest, ht⟩ := hoffered
  simp [step, nextMove, ht, he]

/-- Settles O4: the first step is refused, and that refusal is the outcome of every longer run. -/
theorem reservedCodesRefused : Obligations.ReservedCodesRefused := by
  intro w
  refine ⟨decodeOp_error_iff w, fun hop s hoffered => ?_⟩
  obtain ⟨e, he⟩ := (decodeOp_error_iff w).2 hop
  exact ⟨refusalOf e, run_refused (step_undecoded hoffered he)⟩

/-- Settles O5: each word by the slot or event and the data it is made of. -/
theorem writtenWordsDecode : Obligations.WrittenWordsDecode :=
  ⟨decodeOp_busRd 4#4 0xFFFFFFFF#32, decodeOp_busRd 15#4 0#32,
    decodeOp_busWr 0#4 1#32, decodeOp_busWr 1#4 256000#32,
    decodeOp_busWr 3#4 0xFFFFFFFC#32, decodeOp_busWr 3#4 0xFFFFFFFD#32,
    decodeOp_busWr 3#4 2#32, decodeOp_busWr 3#4 3#32,
    decodeOp_busWr 4#4 0x12345678#32, decodeOp_busWr 15#4 0#32,
    decodeOp_evt 0#4 0#32, decodeOp_evt 1#4 0xDEADBEEF#32, decodeOp_evt 2#4 0#32⟩

/-! ## The lines of APPLY -/

/-- A WR line with a value that has 32-bit data assembles to the write of that data to the line's slot (R89). -/
theorem assemble_wr_decodes (r : Reg) {v : Value} {data : Word} (hv : v.encode = some data) :
    (Line.wr r v).assemble.map decodeOp = some (.ok (decodeWrite r.slot data)) := by
  simp [Line.assemble, hv]

/-- Settles O6, line by line. -/
theorem assembledApplyDecodes : Obligations.AssembledApplyDecodes := by
  intro hz amp wave
  have htarget : (Value.hex hz.toNat).encode = some hz := by simp [Value.encode]
  have hwave : decodeWrite Reg.reqWave.slot ((waveCode wave).zeroExtend 32) = .wrReqWave wave :=
    decodeWrite_reqWave (by cases wave <;> rfl)
  simp only [pseudoApply, List.map_cons, List.map_nil, assemble_wr_decodes .reqTargetHz htarget,
    assemble_wr_decodes .reqAmp (v := .decimal amp) rfl, assemble_wr_decodes .reqWave (v := .wave wave) rfl,
    assemble_wr_decodes .ctrl (v := .decimal 1) rfl, hwave]
  rfl

end Sys2Proof.Machine

/-! PROOFS. The host bus (spec/40_host_bus.md R100 to R122): a host operation completes while `seq` is Idle and is held
while it is Busy, what each completed one does, and who writes the readback registers. -/

namespace Sys2Proof.Machine

/-! ## A completed host operation -/

/-- While the block accepts, a host operation completes with its effect (R100). -/
theorem exec_of_accepts {i : Instr} {effect : State → State} {s t : State} (h : s.Accepts)
    (hi : exec i s = hostAccept effect s) (ht : effect s = t) : exec i s = .next t := by
  rw [hi, hostAccept_idle h.reset_taken h.idle, ht]

theorem readGives_of_accepts {i : Instr} {s : State} {v : Word} (h : s.Accepts)
    (hi : exec i s = hostAccept (answerRead v) s) : ReadGives i s v :=
  exec_of_accepts h hi rfl

theorem writeGives_of_accepts {i : Instr} {effect : State → State} {s : State} {b : Block} (h : s.Accepts)
    (hi : exec i s = hostAccept effect s) (hb : effect s = setBlock b s) : WriteGives i s b :=
  exec_of_accepts h hi hb

/-- A write with no effect completes (R116, R120, R121). -/
theorem exec_of_ignored {i : Instr} {s : State} (h : s.Accepts) (hi : exec i s = hostAccept (fun t => t) s) :
    exec i s = .next s :=
  exec_of_accepts h hi rfl

/-! ## Host reads -/

/-- The code of BUS_RD with a slot spells that slot's row (R86, R88). -/
theorem spelledBy_readOp (slot : SlotIx) : SpelledBy (readOp slot) (decodeRead slot) := decodeOp_busRd slot

/-- A field in the low bits of a word with zeros above it (30_encoding.md R85). -/
theorem zext32_byte (v : Byte) : zext32 v = 0#24 ++ v := by
  simp [zext32, BitVec.setWidth_eq_append]

theorem waveWord_eq (wave : Wave) : waveWord wave = 0#30 ++ waveCode wave := by cases wave <;> rfl

/-- Settles O12: the two full-width registers as they stand, the wave as its code. -/
theorem stagingReadsReturnRequest : Obligations.StagingReadsReturnRequest :=
  ⟨spelledBy_readOp 1#4, spelledBy_readOp 2#4, spelledBy_readOp 3#4, fun s h =>
    ⟨readGives_of_accepts h rfl, readGives_of_accepts h rfl,
      waveWord_eq s.blk.reqWave ▸ readGives_of_accepts h rfl⟩⟩

/-- The five flags stand in bits 0 to 4 of STATUS (10_state.md R28). -/
theorem statusWord_flags (b : Block) :
    (statusWord b).getLsbD 0 = b.configured ∧ (statusWord b).getLsbD 1 = b.tickEn ∧
    (statusWord b).getLsbD 2 = b.dacEn ∧ (statusWord b).getLsbD 3 = b.pulseEn ∧
    (statusWord b).getLsbD 4 = b.setupFault := by
  simp only [statusWord, BitVec.getLsbD_append]
  simp

/-- FAULT_SRC stands from bit 5 of STATUS on, and above it there is nothing (10_state.md R28). -/
theorem statusWord_getLsbD_above_flags (b : Block) (j : Nat) :
    (statusWord b).getLsbD (5 + j) = b.faultSrc.getLsbD j := by
  simp only [statusWord, BitVec.getLsbD_append]
  grind

/-- Settles O13: each part of the word is the part of STATUS that stands there. -/
theorem statusReadPacksFlags : Obligations.StatusReadPacksFlags := by
  refine ⟨spelledBy_readOp 4#4, fun s h => ⟨statusWord s.blk, readGives_of_accepts h rfl, ?_⟩⟩
  obtain ⟨hconf, htick, hdac, hpulse, hfault⟩ := statusWord_flags s.blk
  refine ⟨hconf, htick, hdac, hpulse, hfault, ?_, ?_⟩
  · ext j hj
    rw [BitVec.getElem_extractLsb', statusWord_getLsbD_above_flags, BitVec.getLsbD_eq_getElem hj]
  · ext j hj
    have habove : (statusWord s.blk).getLsbD (7 + j) = s.blk.faultSrc.getLsbD (2 + j) := by
      rw [← statusWord_getLsbD_above_flags, ← Nat.add_assoc]
    simp [habove]

/-- Settles O14: the two frequencies as they stand, amplitude and wave with zeros above. -/
theorem readbackReadsReturnSettings : Obligations.ReadbackReadsReturnSettings :=
  ⟨spelledBy_readOp 5#4, spelledBy_readOp 6#4, spelledBy_readOp 7#4, spelledBy_readOp 8#4, fun s h =>
    ⟨readGives_of_accepts h rfl, readGives_of_accepts h rfl, zext32_byte s.blk.curAmp ▸ readGives_of_accepts h rfl,
      waveWord_eq s.blk.curWave ▸ readGives_of_accepts h rfl⟩⟩

/-- Settles O15: the pulse frequency as it stands, the three bytes with zeros above. -/
theorem engineReadsReturnViews : Obligations.EngineReadsReturnViews :=
  ⟨spelledBy_readOp 9#4, spelledBy_readOp 10#4, spelledBy_readOp 11#4, spelledBy_readOp 12#4, fun s h =>
    ⟨zext32_byte s.blk.phase ▸ readGives_of_accepts h rfl, zext32_byte s.blk.phaseStep ▸ readGives_of_accepts h rfl,
      zext32_byte s.blk.out ▸ readGives_of_accepts h rfl, readGives_of_accepts h rfl⟩⟩

/-- Settles O16: no answer looks at the block. -/
theorem constantReadsReturnConstants : Obligations.ConstantReadsReturnConstants :=
  ⟨spelledBy_readOp 0#4, spelledBy_readOp 13#4, spelledBy_readOp 14#4, spelledBy_readOp 15#4, fun _ h =>
    ⟨readGives_of_accepts h rfl, readGives_of_accepts h rfl, fun _ => readGives_of_accepts h rfl⟩⟩

/-! ## Host writes -/

/-- Settles O17: REQ_WAVE is spelled by the code in bits [1:0], the other two staging writes take the whole data. -/
theorem stagingWritesStoreRequest : Obligations.StagingWritesStoreRequest :=
  ⟨fun d => ⟨decodeOp_busWr 1#4 d, decodeOp_busWr 2#4 d,
      fun _ hwave => (decodeOp_busWr 3#4 d).trans (congrArg _ (decodeWrite_reqWave hwave.symm))⟩,
    fun _ h _ _ => ⟨writeGives_of_accepts h rfl rfl, writeGives_of_accepts h rfl rfl, writeGives_of_accepts h rfl rfl⟩⟩

/-- Settles O18: the slots 4..15 by their range, and the effect of each is none. -/
theorem ignoredWritesChangeNothing : Obligations.IgnoredWritesChangeNothing :=
  ⟨fun slot hlo hhi d => (decodeOp_busWr slot d).trans (congrArg _ (decodeWrite_ignoredLo d hlo hhi)),
    fun slot hhi d => (decodeOp_busWr slot d).trans (congrArg _ (decodeWrite_ignoredHi d hhi)),
    fun _ h => ⟨exec_of_ignored h rfl, fun _ => ⟨exec_of_ignored h rfl, exec_of_ignored h rfl⟩⟩⟩

/-- Settles O19: the effect is `startApply`. -/
theorem applyStartsSequencer : Obligations.ApplyStartsSequencer := fun _ h => writeGives_of_accepts h rfl rfl

/-! ## A held host operation -/

section
variable {s : State} {w : OpWord} {i : Instr} {job : Job} {stage : Stage} {pending : List FieldWrite}

/-- After the first RESET a host operation waits while an APPLY is pending (R100). -/
theorem holds_of_busy (hi : i.isHost = true) (hr : s.resetTaken = true) (hq : s.blk.seq = .busy job stage pending) :
    holds i s = true := by
  simp [holds, hi, hr, hq]

/-- The hold (60_exceptions.md R214) is that the operation offered next must wait. -/
theorem holding_eq_holds (hoffered : s.Offered w) (hd : decodeOp w = .ok i) : s.holding = holds i s := by
  obtain ⟨rest, ht⟩ := hoffered
  simp [State.holding, ht, hd]

/-- An operation that must wait leaves its turn where it is, and the Sequencer takes the step. -/
theorem step_held (hoffered : s.Offered w) (hd : decodeOp w = .ok i) (hh : holds i s = true) :
    step s = .next (microStep (restPorts s)) := by
  obtain ⟨rest, ht⟩ := hoffered
  simp [step, nextMove, ht, hd, hh]

/-- A host operation that must wait has no effect (R100). -/
theorem exec_held (hi : i.isHost = true) (hr : s.resetTaken = true) (hq : s.blk.seq = .busy job stage pending) :
    exec i s = .next s := by
  obtain ⟨effect, heffect, -⟩ := exec_host hi s
  rw [heffect, hostAccept_busy hr hq]

end

/-- Settles O8: the Sequencer moves in its place, and no micro-step takes a turn off the list. -/
theorem stepHoldsHostOperation : Obligations.StepHoldsHostOperation := by
  intro s w i job stage pending hoffered hd hi hr hq
  have hh : holds i s = true := holds_of_busy hi hr hq
  obtain ⟨-, hturns, -⟩ := microStep_frame (restPorts s)
  exact ⟨(holding_eq_holds hoffered hd).trans hh, exec_held hi hr hq, _, step_held hoffered hd hh, rfl, hturns⟩

/-! ## Who writes the readback registers -/

/-- CUR_* and CONFIGURED together (10_state.md R29, R34 to R37). -/
def Block.readback (b : Block) : Word × Word × Byte × Wave × Bool :=
  (b.curTarget, b.curActual, b.curAmp, b.curWave, b.configured)

theorem Block.readback_eq_iff (b c : Block) :
    b.readback = c.readback ↔
      b.curTarget = c.curTarget ∧ b.curActual = c.curActual ∧ b.curAmp = c.curAmp ∧ b.curWave = c.curWave ∧
      b.configured = c.configured := by
  simp [Block.readback]

@[simp] theorem writeTo_readback (f : FieldWrite) (b : Block) : (f.writeTo b).readback = b.readback := by
  cases f <;> rfl

/-- DISABLE writes `seq` and the enables of the mode that goes off (R151, R152). -/
theorem seqDisable_readback (job : Job) (pending : List FieldWrite) (s : State) :
    (seqDisable job pending s).blk.readback = s.blk.readback := by
  rw [seqDisable]
  cases job.mode with
  | square => simp [stopTick_eq, disableDac_eq, Block.readback]
  | cont step => simp [disarmPulse_eq, Block.readback]

/-- FIELDS writes `seq` and at most one engine field (R153, R154). -/
theorem seqFields_readback (job : Job) (pending : List FieldWrite) (s : State) :
    (seqFields job pending s).blk.readback = s.blk.readback := by
  cases pending with
  | nil => rfl
  | cons f rest =>
    obtain ⟨k, -, -, hk⟩ := seqFields_cons job f rest s
    obtain ⟨hblk, -⟩ := drawPick_spec s
    simp [hk, hblk, Block.readback]

/-- ENABLE_DAC writes `seq`, and DAC_EN or the fault flags (R155). -/
theorem seqEnableDac_readback (job : Job) (s : State) : (seqEnableDac job s).blk.readback = s.blk.readback := by
  obtain ⟨-, h⟩ | ⟨-, -, h⟩ | ⟨-, -, h⟩ := seqEnableDac_cases job s <;> simp [h, faultFlags, Block.readback]

/-- ENABLE_TICK writes `seq`, and TICK_EN or the fault flags (R155). -/
theorem seqEnableTick_readback (job : Job) (s : State) : (seqEnableTick job s).blk.readback = s.blk.readback := by
  obtain ⟨-, h⟩ | ⟨-, -, h⟩ | ⟨-, -, h⟩ := seqEnableTick_cases job s <;> simp [h, faultFlags, Block.readback]

/-- ENABLE_PULSE writes `seq`, and PULSE_EN or the fault flags (R156). -/
theorem seqEnablePulse_readback (job : Job) (s : State) : (seqEnablePulse job s).blk.readback = s.blk.readback := by
  obtain ⟨-, h⟩ | ⟨-, -, h⟩ | ⟨-, -, h⟩ := seqEnablePulse_cases job s <;> simp [h, faultFlags, Block.readback]

/-- `t` comes from `s` by the FACADE micro-step of a pending APPLY, up to what is observed and the inputs (R157). -/
def State.CompletesApply (s t : State) : Prop :=
  ∃ job pending, s.blk.seq = .busy job .facade pending ∧ t.blk = (seqFacade job s).blk

/-- Of all micro-steps only FACADE's writes the readback registers. -/
theorem microStep_readback (s : State) :
    (microStep s).blk.readback = s.blk.readback ∨ s.CompletesApply (microStep s) := by
  match hq : s.blk.seq with
  | .busy job .facade pending => exact .inr ⟨job, pending, hq, by rw [microStep_facade hq]⟩
  | .idle => exact .inl (by rw [microStep_idle hq])
  | .busy job .disable pending => exact .inl (by rw [microStep_disable hq, seqDisable_readback])
  | .busy job .fields pending => exact .inl (by rw [microStep_fields hq, seqFields_readback])
  | .busy job .enableDac _ => exact .inl (by rw [microStep_enableDac hq, seqEnableDac_readback])
  | .busy job .enableTick _ => exact .inl (by rw [microStep_enableTick hq, seqEnableTick_readback])
  | .busy job .enablePulse _ => exact .inl (by rw [microStep_enablePulse hq, seqEnablePulse_readback])

/-- No operation but RESET writes the readback registers: a TICK writes `out` and `phase`, a host operation at most a
staging register or `seq` (R122). -/
theorem exec_readback {i : Instr} {s t : State} (h : exec i s = .next t) (hi : i ≠ .reset) :
    t.blk.readback = s.blk.readback := by
  obtain ⟨rfl, -⟩ | ⟨-, ⟨-, rfl⟩ | ⟨-, -, rfl⟩ | ⟨-, -, hhost⟩⟩ := exec_cases h
  · exact absurd rfl hi
  · obtain ⟨-, -, out, phase, hblk⟩ := takeTick_frame s
    rw [hblk]
    rfl
  · rfl
  · obtain ⟨v, rfl⟩ | rfl | rfl | ⟨d, rfl⟩ | ⟨d, rfl⟩ | ⟨wave, rfl⟩ := hhost <;> rfl

/-- What a step that takes no RESET does to the readback registers. -/
theorem step_readback {s t : State} (h : step s = .next t) (hreset : ¬ s.TakesReset) :
    t.blk.readback = s.blk.readback ∨ s.CompletesApply t := by
  obtain ⟨-, -, rfl⟩ | ⟨-, s0, rfl | rfl, rfl⟩ | ⟨w, rest, i, ht, hd, -, hexec⟩ := step_cases h
  · exact .inl rfl
  · exact microStep_readback (restPorts s)
  · exact microStep_readback (dropTurn (restPorts s))
  · have hi : i ≠ .reset := fun hi => hreset ⟨w, ⟨rest, ht⟩, hi ▸ hd⟩
    exact .inl (exec_readback (s := dropTurn (restPorts s)) hexec hi)

/-- Settles O47: of the moves of a step only the FACADE micro-step writes the readback registers. -/
theorem onlyFacadeWritesReadback : Obligations.OnlyFacadeWritesReadback := by
  intro s t h hreset
  obtain hkept | ⟨job, pending, hq, hblk⟩ := step_readback h hreset
  · exact .inl ((Block.readback_eq_iff _ _).1 hkept)
  · exact .inr ⟨job, pending, hq, by simp [hblk, seqFacade]⟩

end Sys2Proof.Machine


/-! PROOFS. Configure (spec/41_configurator.md R140 to R149, R163, R166): the clamps, the quantizer as exact rounding, and
the frequencies that can be achieved. -/

namespace Sys2Proof.Machine

/-! ## The clamps -/

theorem clampNat_eq {v lo hi : Nat} (h : lo ≤ hi) : clampNat v lo hi = max lo (min v hi) := by
  unfold clampNat
  split_ifs <;> omega

theorem contTarget_eq (r : Word) : contTarget r = max 256 (min r.toNat 5120000) := clampNat_eq (by decide)

theorem squareTarget_eq (r : Word) : squareTarget r = max 256 (min r.toNat 2560000000) := clampNat_eq (by decide)

theorem clampInt_bounds {v lo hi : Int} (h : lo ≤ hi) : lo ≤ clampInt v lo hi ∧ clampInt v lo hi ≤ hi := by
  unfold clampInt
  split_ifs <;> omega

/-- The clamped amplitude fits its byte. -/
theorem ampClamp_toNat (a : Word) : ((ampClamp a).toNat : Int) = clampInt (s32 a) 0 255 := by
  obtain ⟨hlo, hhi⟩ := clampInt_bounds (v := s32 a) (lo := 0) (hi := 255) (by decide)
  rw [ampClamp, Config.ampMin, Config.ampMax, BitVec.toNat_ofInt]
  omega

/-- Settles O21: the amplitude of a job is the clamp of the request, whatever the wave. -/
theorem amplitudeClamped : Obligations.AmplitudeClamped := by
  intro r a wave
  rw [configure_amp, ampClamp_toNat]
  rfl

/-! ## The quantizer -/

/-- The quantizer as a division of natural numbers. -/
theorem quantizeStep_eq_div (t : Nat) : quantizeStep t = max 1 (min ((2 * t + 20000) / 40000) 64) :=
  clampNat_eq (by decide)

/-- Rounding t / FS is rounding down t / FS + 1/2: exact halves go up (R144). -/
theorem floor_add_half_eq_div (t : Nat) : ⌊(t : ℚ) / 20000 + 1 / 2⌋ = ((2 * t + 20000) / 40000 : ℕ) := by
  have hquot : (t : ℚ) / 20000 + 1 / 2 = ((2 * t + 20000 : ℕ) : ℚ) / (40000 : ℕ) := by
    push_cast
    ring
  rw [hquot, Rat.floor_natCast_div_natCast, Int.natCast_ediv]

/-- The quantizer in exact rationals (R144, R145). -/
theorem quantizeStep_eq_floor (t : Nat) :
    (quantizeStep t : ℤ) = max 1 (min ⌊(t : ℚ) / 20000 + 1 / 2⌋ 64) := by
  rw [floor_add_half_eq_div, quantizeStep_eq_div]
  omega

/-- Settles O23: each interval is where the division gives its step. -/
theorem quantizerClosedForm : Obligations.QuantizerClosedForm := by
  intro t _ _
  have hdiv := quantizeStep_eq_div t
  have hlast : 1270000 ≤ t → quantizeStep t = 64 := by omega
  refine ⟨by omega, fun k hlo hhi => by omega, fun ht => ⟨hlast ht, ?_⟩, ?_⟩
  · rw [hlast ht, contActual, Config.fs]
  · rw [contActual, Nat.cast_mul, quantizeStep_eq_floor]
    rfl

/-- A multiple of FS in the range of steps is its own step. -/
theorem quantizeStep_fs_mul {k : Nat} (h1 : 1 ≤ k) (h64 : k ≤ 64) : quantizeStep (20000 * k) = k := by
  rw [quantizeStep_eq_div]
  omega

/-! ## The jobs -/

theorem contTarget_toNat (r : Word) : (BitVec.ofNat 32 (contTarget r)).toNat = contTarget r := by
  have := contTarget_bounds r
  rw [BitVec.toNat_ofNat]
  omega

theorem squareTarget_toNat (r : Word) : (BitVec.ofNat 32 (squareTarget r)).toNat = squareTarget r := by
  have := squareTarget_bounds r
  rw [BitVec.toNat_ofNat]
  omega

/-- Settles O22: no field of the job loses a bit, and the step is the quantizer's. -/
theorem continuousConfigureExact : Obligations.ContinuousConfigureExact := by
  intro r a wave hwave
  rw [configure_cont r a hwave]
  refine ⟨_, rfl, rfl, ?_, ?_, ?_⟩
  · rw [contTarget_toNat, contTarget_eq]
  · rw [configure_step_toNat, contTarget_toNat, quantizeStep_eq_floor]
  · rw [configure_step_toNat, configure_actual_toNat, Config.fs]

/-- Settles O24: the target fits its word, and is the achieved frequency too. -/
theorem squareConfigureUnquantized : Obligations.SquareConfigureUnquantized := by
  intro r a
  refine ⟨rfl, rfl, ?_, rfl⟩
  rw [configure_square, squareTarget_toNat, squareTarget_eq]

/-- The achieved frequency of a continuous job is FS times its step (R146). -/
theorem configure_actual_toNat_of_cont (r a : Word) {wave : Wave} (hwave : wave ≠ .square) :
    (configure r a wave).actual.toNat = 20000 * quantizeStep (contTarget r) := by
  rw [configure_cont r a hwave, configure_actual_toNat, Config.fs]

/-- Settles O25: every step lies in 1..64, and the request 20000 k, which no clamp changes, has the step k. -/
theorem reachableFrequencies : Obligations.ReachableFrequencies := by
  intro wave a hwave actual
  constructor
  · rintro ⟨r, rfl⟩
    obtain ⟨h1, h64⟩ := quantizeStep_bounds (contTarget r)
    exact ⟨_, h1, h64, configure_actual_toNat_of_cont r a hwave⟩
  · rintro ⟨k, h1, h64, hk⟩
    have htarget : contTarget actual = 20000 * k := by
      rw [contTarget_eq, hk]
      omega
    refine ⟨actual, BitVec.eq_of_toNat_eq ?_⟩
    rw [configure_actual_toNat_of_cont actual a hwave, htarget, quantizeStep_fs_mul h1 h64, hk]

end Sys2Proof.Machine

/-! PROOFS. The micro-steps of the Sequencer (spec/41_configurator.md R150 to R157, R162): the next state of each stage, the
orders of the field writes, and what no micro-step touches. -/

namespace Sys2Proof.Machine

/-! ## DISABLE -/

/-- Settles O26, by the equations of `stopTick` and `disableDac`. -/
theorem squareDisableStopsTickThenDac : Obligations.SquareDisableStopsTickThenDac := by
  intro s job pending hq hmode
  rw [microStep_disable hq, seqDisable, hmode]
  simp [stopTick_eq, disableDac_eq, setSeq, setBlock]

/-- Settles O27, by the equation of `disarmPulse`. -/
theorem continuousDisableDisarmsPulse : Obligations.ContinuousDisableDisarmsPulse := by
  intro s job pending step hq hmode
  rw [microStep_disable hq, seqDisable, hmode]
  simp [disarmPulse_eq, setSeq, setBlock]

/-! ## FIELDS -/

theorem drawPick_cons {s : State} {k : Nat} {picks : List Nat} (h : s.inp.picks = k :: picks) :
    drawPick s = (k, { s with inp := { s.inp with picks := picks } }) := by
  simp [drawPick, h]

/-- The pick at which a pending write stands makes that write, and leaves the others pending. -/
theorem seqFields_pick {s : State} {pre post : List FieldWrite} {f : FieldWrite} {picks : List Nat} (job : Job)
    (h : s.inp.picks = pre.length :: picks) :
    seqFields job (pre ++ f :: post) s =
      setSeq (afterFields job (pre ++ post)) (applyField f { s with inp := { s.inp with picks := picks } }) := by
  have hdraw := drawPick_cons h
  cases pre with
  | nil => simp [seqFields, hdraw]
  | cons g pre =>
    simp [seqFields, hdraw, Nat.mod_eq_of_lt, List.eraseIdx_append_of_length_le, ← Nat.add_assoc]

theorem afterFields_eq_ite (job : Job) (pending : List FieldWrite) :
    afterFields job pending =
      if pending = [] then .busy job (enableStage job) [] else .busy job .fields pending := by
  cases pending <;> rfl

/-- Settles O28. -/
theorem fieldsMicroStepMakesOneWrite : Obligations.FieldsMicroStepMakesOneWrite := by
  refine ⟨fun b v wave t => ⟨rfl, rfl, rfl, rfl⟩, fun s job pre post f picks hq hpicks => ?_⟩
  rw [microStep_fields hq, seqFields_pick job hpicks]
  refine ⟨?_, ?_, ?_⟩
  · rw [setSeq_blk, applyField_blk]
    exact congrArg (fun q => { f.writeTo s.blk with seq := q }) (afterFields_eq_ite job (pre ++ post))
  · exact congrArg Observed.history (applyField_obs f _)
  · rw [setSeq_inp, applyField_inp]

/-- Making some writes in turn. -/
def writeAll (fs : List FieldWrite) (b : Block) : Block := fs.foldl (fun b f => f.writeTo b) b

/-- A write touches another element than `seq`. -/
theorem writeTo_withSeq (f : FieldWrite) (b : Block) (q : Seq) :
    f.writeTo { b with seq := q } = { f.writeTo b with seq := q } := by
  cases f <;> rfl

theorem writeAll_withSeq (fs : List FieldWrite) (b : Block) (q : Seq) :
    writeAll fs { b with seq := q } = { writeAll fs b with seq := q } := by
  induction fs generalizing b with
  | nil => rfl
  | cons f fs ih =>
    change writeAll fs (f.writeTo { b with seq := q }) = _
    rw [writeTo_withSeq, ih]
    rfl

theorem mem_fieldsOf_iff_of_cont {job : Job} {step : Byte} (hmode : job.mode = .cont step) (f : FieldWrite) :
    f ∈ fieldsOf job ↔ f = .phaseStep step ∨ f = .ampScale job.amp ∨ f = .activeWave job.wave := by
  simp [fieldsOf, hmode]

theorem mem_fieldsOf_iff_of_square {job : Job} (hmode : job.mode = .square) (f : FieldWrite) :
    f ∈ fieldsOf job ↔ f = .ampScale job.amp ∨ f = .activeWave .square ∨ f = .pulseFreq job.t := by
  simp [fieldsOf, hmode]

/-- The writes of one job write different elements, so their order does not matter (R153). -/
theorem writeTo_comm {job : Job} {f g : FieldWrite} (hf : f ∈ fieldsOf job) (hg : g ∈ fieldsOf job) (b : Block) :
    g.writeTo (f.writeTo b) = f.writeTo (g.writeTo b) := by
  cases hmode : job.mode with
  | cont step =>
    rw [mem_fieldsOf_iff_of_cont hmode] at hf hg
    obtain rfl | rfl | rfl := hf <;> obtain rfl | rfl | rfl := hg <;> rfl
  | square =>
    rw [mem_fieldsOf_iff_of_square hmode] at hf hg
    obtain rfl | rfl | rfl := hf <;> obtain rfl | rfl | rfl := hg <;> rfl

/-- Every order of a job's writes gives the same block (R164). -/
theorem writeAll_eq_of_perm {job : Job} {order : List FieldWrite} (h : order.Perm (fieldsOf job)) (b : Block) :
    writeAll order b = writeAll (fieldsOf job) b :=
  h.foldl_eq' (fun _ hf _ hg b => writeTo_comm (h.subset hf) (h.subset hg) b) b

/-- `picks` leads FIELDS through `order`: from every state that has `pending` left to write, after `n` micro-steps the first
`n` writes of `order` are made, and the others are pending. -/
def LeadsThrough (job : Job) (pending order : List FieldWrite) (picks : List Nat) : Prop :=
  ∀ s : State, s.blk.seq = afterFields job pending → s.inp.picks = picks → ∀ n, n ≤ order.length →
    ∃ left, left.Perm (order.drop n) ∧
      (microSteps n s).blk = { writeAll (order.take n) s.blk with seq := afterFields job left }

/-- The pick of the first write of an order, and then those of the rest. -/
theorem LeadsThrough.cons {job : Job} {pre post rest : List FieldWrite} {f : FieldWrite} {picks : List Nat}
    (hperm : (f :: rest).Perm (pre ++ f :: post)) (h : LeadsThrough job (pre ++ post) rest picks) :
    LeadsThrough job (pre ++ f :: post) (f :: rest) (pre.length :: picks) := by
  intro s hq hpicks n hn
  match n with
  | 0 => exact ⟨_, hperm.symm, by rw [← hq]; rfl⟩
  | n + 1 =>
    have hfields : s.blk.seq = .busy job .fields (pre ++ f :: post) := by
      rw [hq, afterFields_eq_ite, if_neg (by simp)]
    have hstep : microStep s = _ := (microStep_fields hfields).trans (seqFields_pick job hpicks)
    obtain ⟨left, hleft, hblk⟩ := h (microStep s) (by simp [hstep]) (by simp [hstep]) n (Nat.le_of_succ_le_succ hn)
    refine ⟨left, hleft, hblk.trans ?_⟩
    rw [hstep, setSeq_blk, applyField_blk, writeAll_withSeq]
    rfl

/-- Every order of what is pending has picks that lead through it (R153), by induction on the order. -/
theorem exists_picks (job : Job) (order : List FieldWrite) : ∀ pending : List FieldWrite, order.Perm pending →
    ∃ picks : List Nat, picks.length = order.length ∧ LeadsThrough job pending order picks := by
  induction order with
  | nil =>
    intro pending hperm
    obtain rfl := hperm.nil_eq
    refine ⟨[], rfl, fun s hq _ n hn => ?_⟩
    obtain rfl := Nat.le_zero.1 hn
    exact ⟨[], List.Perm.refl _, by rw [← hq]; rfl⟩
  | cons f rest ih =>
    intro pending hperm
    obtain ⟨pre, post, rfl⟩ := List.append_of_mem (hperm.subset List.mem_cons_self)
    have hrest : rest.Perm (pre ++ post) := (hperm.trans List.perm_middle).cons_inv
    obtain ⟨picks, hlen, hlead⟩ := ih (pre ++ post) hrest
    exact ⟨pre.length :: picks, by simp [hlen], hlead.cons hperm⟩

/-- Settles O29: the picks that lead through the order, and the order does not matter to the block. -/
theorem everyFieldOrderReachesSameBlock : Obligations.EveryFieldOrderReachesSameBlock := by
  intro s r a wave order hperm hq
  obtain ⟨picks, hlen, hlead⟩ := exists_picks (configure r a wave) order _ hperm
  have hthree : order.length = 3 := hperm.length_eq.trans (fieldsOf_length _)
  have hstart : (s.withDraws picks []).blk.seq = afterFields (configure r a wave) (fieldsOf (configure r a wave)) :=
    hq.trans (by rw [afterFields_eq_ite, if_neg (fieldsOf_ne_nil _)])
  have hrun := hlead (s.withDraws picks []) hstart rfl
  rw [hthree] at hlen hrun
  refine ⟨picks, hlen, fun n hn => ?_, ?_⟩
  · obtain ⟨left, -, hblk⟩ := hrun n hn
    exact ⟨_, hblk⟩
  · obtain ⟨left, hleft, hblk⟩ := hrun 3 le_rfl
    rw [← hthree, List.drop_length] at hleft
    rw [← hthree, List.take_length, writeAll_eq_of_perm hperm, hleft.eq_nil, hthree] at hblk
    exact hblk

/-! ## ENABLE -/

theorem requestSetup_cons {s : State} {answer : Config.Answer} {answers : List Config.Answer} (which : Peripheral)
    (h : s.inp.answers = answer :: answers) :
    requestSetup which s =
      (answer, { s with
        obs := { s.obs with setupReq := peripheralCode which }
        inp := { s.inp with answers := answers } }) := by
  simp [requestSetup, drawAnswer, h]

/-- Settles O30. -/
theorem enableDacAsksPlatform : Obligations.EnableDacAsksPlatform := by
  intro s job pending hq
  rw [microStep_enableDac hq, seqEnableDac]
  refine ⟨fun hon => ?_, fun hoff answers => ⟨fun hok => ?_, fun hfail => ?_⟩⟩
  · rw [if_pos hon]; rfl
  · rw [if_neg (by simp [hoff]), requestSetup_cons .dac hok]; rfl
  · rw [if_neg (by simp [hoff]), requestSetup_cons .dac hfail]; rfl

/-- Settles O31. -/
theorem enableTickAsksPlatform : Obligations.EnableTickAsksPlatform := by
  intro s job pending hq
  rw [microStep_enableTick hq, seqEnableTick]
  refine ⟨fun hon => ?_, fun hoff answers => ⟨fun hok => ?_, fun hfail => ?_⟩⟩
  · rw [if_pos hon]; rfl
  · rw [if_neg (by simp [hoff]), requestSetup_cons .tickTimer hok]; rfl
  · rw [if_neg (by simp [hoff]), requestSetup_cons .tickTimer hfail]; rfl

/-- Settles O32. -/
theorem enablePulseAsksPlatform : Obligations.EnablePulseAsksPlatform := by
  intro s job pending hq
  rw [microStep_enablePulse hq, seqEnablePulse]
  refine ⟨fun hon => ?_, fun hoff answers => ⟨fun hok => ?_, fun hfail => ?_⟩⟩
  · rw [if_pos hon]; rfl
  · rw [if_neg (by simp [hoff]), requestSetup_cons .pulse hok]; rfl
  · rw [if_neg (by simp [hoff]), requestSetup_cons .pulse hfail]; rfl

/-! ## FACADE -/

/-- Settles O34. -/
theorem facadeCompletesApply : Obligations.FacadeCompletesApply := by
  intro s job pending hq
  rw [microStep_facade hq]
  rfl

/-! ## What no micro-step touches -/

/-- What the tick engine alone writes, and the two ports that only a TICK and a host read drive (R162, R208). -/
def State.samples (s : State) : Byte × Byte × Bool × Option Word :=
  (s.blk.phase, s.blk.out, s.obs.dacWe, s.obs.rdata)

@[simp] theorem requestSetup_obs (which : Peripheral) (s : State) :
    (requestSetup which s).2.obs = { s.obs with setupReq := peripheralCode which } := by
  obtain ⟨-, -, hobs, -⟩ := requestSetup_spec which s
  exact hobs

theorem microStep_samples (s : State) : (microStep s).samples = s.samples := by
  match hq : s.blk.seq with
  | .idle => rw [microStep_idle hq]
  | .busy job .disable pending =>
    rw [microStep_disable hq, seqDisable]
    cases job.mode <;> simp [State.samples, stopTick_eq, disableDac_eq, disarmPulse_eq]
  | .busy job .fields [] => rw [microStep_fields hq]; rfl
  | .busy job .fields (f :: rest) =>
    obtain ⟨k, -, -, hk⟩ := seqFields_cons job f rest s
    obtain ⟨hblk, -, hobs, -⟩ := drawPick_spec s
    simp [State.samples, microStep_fields hq, hk, hblk, hobs, applyField_obs]
  | .busy job .enableDac _ =>
    rw [microStep_enableDac hq]
    obtain ⟨-, h⟩ | ⟨-, -, h⟩ | ⟨-, -, h⟩ := seqEnableDac_cases job s <;>
      simp [State.samples, h, raiseSetupFault, faultFlags]
  | .busy job .enableTick _ =>
    rw [microStep_enableTick hq]
    obtain ⟨-, h⟩ | ⟨-, -, h⟩ | ⟨-, -, h⟩ := seqEnableTick_cases job s <;>
      simp [State.samples, h, raiseSetupFault, faultFlags]
  | .busy job .enablePulse _ =>
    rw [microStep_enablePulse hq]
    obtain ⟨-, h⟩ | ⟨-, -, h⟩ | ⟨-, -, h⟩ := seqEnablePulse_cases job s <;>
      simp [State.samples, h, raiseSetupFault, faultFlags]
  | .busy job .facade _ => rw [microStep_facade hq]; rfl

/-- Settles O35. -/
theorem sequencerLeavesPhaseAlone : Obligations.SequencerLeavesPhaseAlone := by
  intro s
  obtain ⟨htarget, hamp, hwave⟩ := microStep_staging s
  obtain ⟨hreset, hturns, hreads⟩ := microStep_frame s
  obtain ⟨hphase, hout, hdacWe, hrdata⟩ : _ ∧ _ ∧ _ ∧ _ := by simpa [State.samples] using microStep_samples s
  exact ⟨hphase, hout, htarget, hamp, hwave, hreads, hrdata, hdacWe, hturns, hreset⟩

end Sys2Proof.Machine

/-! PROOFS. The invariant of the machine (spec/41_configurator.md R158 to R160): every micro-step and every operation keeps
it, and with it the two modes are never on together. -/

namespace Sys2Proof.Machine

/-! ## The engine elements -/

/-- The elements that the FIELDS stage writes (R154). -/
def Block.engine (b : Block) : Byte × Byte × Wave × Word := (b.phaseStep, b.ampScale, b.activeWave, b.pulseFreq)

theorem holds_phaseStep_iff (v : Byte) (b : Block) : (FieldWrite.phaseStep v).Holds b ↔ b.phaseStep = v := by
  cases b; simp [FieldWrite.Holds, FieldWrite.writeTo, eq_comm]

theorem holds_ampScale_iff (v : Byte) (b : Block) : (FieldWrite.ampScale v).Holds b ↔ b.ampScale = v := by
  cases b; simp [FieldWrite.Holds, FieldWrite.writeTo, eq_comm]

theorem holds_activeWave_iff (w : Wave) (b : Block) : (FieldWrite.activeWave w).Holds b ↔ b.activeWave = w := by
  cases b; simp [FieldWrite.Holds, FieldWrite.writeTo, eq_comm]

theorem holds_pulseFreq_iff (t : Word) (b : Block) : (FieldWrite.pulseFreq t).Holds b ↔ b.pulseFreq = t := by
  cases b; simp [FieldWrite.Holds, FieldWrite.writeTo, eq_comm]

/-- Whether a field holds its value depends on the engine elements alone. -/
theorem FieldWrite.Holds.congr {f : FieldWrite} {b c : Block} (h : f.Holds b) (he : c.engine = b.engine) :
    f.Holds c := by
  obtain ⟨hstep, hamp, hwave, hfreq⟩ : c.phaseStep = b.phaseStep ∧ c.ampScale = b.ampScale ∧
      c.activeWave = b.activeWave ∧ c.pulseFreq = b.pulseFreq := by simpa [Block.engine] using he
  cases f with
  | phaseStep v => rwa [holds_phaseStep_iff, hstep, ← holds_phaseStep_iff]
  | ampScale v => rwa [holds_ampScale_iff, hamp, ← holds_ampScale_iff]
  | activeWave w => rwa [holds_activeWave_iff, hwave, ← holds_activeWave_iff]
  | pulseFreq t => rwa [holds_pulseFreq_iff, hfreq, ← holds_pulseFreq_iff]

/-- All field writes of a job have been made (R153). -/
def Job.FieldsHold (job : Job) (b : Block) : Prop := ∀ f ∈ fieldsOf job, f.Holds b

theorem Job.fieldsHold_iff_of_cont {job : Job} {step : Byte} (hmode : job.mode = .cont step) (b : Block) :
    job.FieldsHold b ↔ b.phaseStep = step ∧ b.ampScale = job.amp ∧ b.activeWave = job.wave := by
  simp [Job.FieldsHold, fieldsOf, hmode, holds_phaseStep_iff, holds_ampScale_iff, holds_activeWave_iff]

theorem Job.fieldsHold_iff_of_square {job : Job} (hmode : job.mode = .square) (b : Block) :
    job.FieldsHold b ↔ b.ampScale = job.amp ∧ b.activeWave = .square ∧ b.pulseFreq = job.t := by
  simp [Job.FieldsHold, fieldsOf, hmode, holds_pulseFreq_iff, holds_ampScale_iff, holds_activeWave_iff]

/-! ## Results of Configure -/

/-- A job that Configure gives (R149). -/
def Job.Configured (job : Job) : Prop := ∃ reqTarget reqAmp reqWave, job = configure reqTarget reqAmp reqWave

section
variable {job : Job}

theorem Job.Configured.mode_square_iff (h : job.Configured) : job.mode = .square ↔ job.wave = .square := by
  obtain ⟨r, a, wave, rfl⟩ := h
  rw [configure_mode_square_iff, configure_wave]

/-- The step of a continuous job lies in 1..64, and FS times it is the achieved frequency (R145, R146). -/
theorem Job.Configured.step_spec {step : Byte} (h : job.Configured) (hmode : job.mode = .cont step) :
    1 ≤ step.toNat ∧ step.toNat ≤ 64 ∧ step.toNat * Config.fs = job.actual.toNat := by
  obtain ⟨r, a, wave, rfl⟩ := h
  have hwave : wave ≠ .square := by
    intro hsquare
    rw [(configure_mode_square_iff r a wave).2 hsquare] at hmode
    cases hmode
  rw [configure_cont r a hwave] at hmode ⊢
  obtain rfl := Mode.cont.inj hmode
  obtain ⟨hlo, hhi⟩ := quantizeStep_bounds (contTarget r)
  rw [configure_step_toNat, configure_actual_toNat, Nat.mul_comm]
  exact ⟨hlo, hhi, rfl⟩

/-- A square job achieves its target (R148). -/
theorem Job.Configured.square_actual (h : job.Configured) (hmode : job.mode = .square) : job.actual = job.t := by
  obtain ⟨r, a, wave, rfl⟩ := h
  obtain rfl := (configure_mode_square_iff r a wave).1 hmode
  rfl

/-- The field writes of a job keep the step in its range (10_state.md R39). -/
theorem Job.Configured.writeTo_step_le {f : FieldWrite} {b : Block} (h : job.Configured) (hf : f ∈ fieldsOf job)
    (hle : b.phaseStep.toNat ≤ 64) : (f.writeTo b).phaseStep.toNat ≤ 64 := by
  cases hmode : job.mode with
  | cont step =>
    obtain ⟨-, hstep, -⟩ := h.step_spec hmode
    rw [mem_fieldsOf_iff_of_cont hmode] at hf
    obtain rfl | rfl | rfl := hf
    · exact hstep
    · exact hle
    · exact hle
  | square =>
    rw [mem_fieldsOf_iff_of_square hmode] at hf
    obtain rfl | rfl | rfl := hf <;> exact hle

/-- While ticks play, the field writes of a continuous job keep them playing a table with a step (I3). -/
theorem Job.Configured.writeTo_plays {f : FieldWrite} {b : Block} {step : Byte} (h : job.Configured)
    (hmode : job.mode = .cont step) (hf : f ∈ fieldsOf job)
    (hplays : b.activeWave ≠ .square ∧ 1 ≤ b.phaseStep.toNat) :
    (f.writeTo b).activeWave ≠ .square ∧ 1 ≤ (f.writeTo b).phaseStep.toNat := by
  obtain ⟨hstep, -, -⟩ := h.step_spec hmode
  have hwave : job.wave ≠ .square := by simp [← h.mode_square_iff, hmode]
  obtain ⟨hplaysWave, hplaysStep⟩ := hplays
  rw [mem_fieldsOf_iff_of_cont hmode] at hf
  obtain rfl | rfl | rfl := hf
  · exact ⟨hplaysWave, hstep⟩
  · exact ⟨hplaysWave, hplaysStep⟩
  · exact ⟨hwave, hplaysStep⟩

end

/-! ## A pending APPLY

`SeqInv` alone is kept by every micro-step, whatever the rest of the block holds. -/

section
variable {s : State} {b c : Block} {job : Job} {stage : Stage} {pending : List FieldWrite}

theorem seqInv_busy_iff (hq : b.seq = .busy job stage pending) :
    SeqInv b ↔ job.Configured ∧ StageInv job stage pending b ∧ ∀ f ∈ fieldsOf job, f ∉ pending → f.Holds b := by
  rw [SeqInv, hq]
  rfl

/-- An APPLY begins with all its field writes pending. -/
theorem seqInv_startApply (s : State) : SeqInv (startApply s).blk := by
  have hq : (startApply s).blk.seq = .busy s.requestedJob .disable (fieldsOf s.requestedJob) := rfl
  exact (seqInv_busy_iff hq).2 ⟨⟨_, _, _, rfl⟩, rfl, fun _ hf hnot => absurd hf hnot⟩

theorem seqInv_of_idle (hq : b.seq = .idle) : SeqInv b := by
  simp [SeqInv, hq]

/-- A FIELDS micro-step takes one write out of the pending ones and makes it. -/
theorem seqFields_cases (job : Job) (hne : pending ≠ []) (s : State) :
    ∃ pre f post, pending = pre ++ f :: post ∧
      seqFields job pending s = setSeq (afterFields job (pre ++ post)) (applyField f (drawPick s).2) := by
  obtain ⟨g, rest, rfl⟩ := List.exists_cons_of_ne_nil hne
  obtain ⟨k, hk, -, heq⟩ := seqFields_cons job g rest s
  refine ⟨(g :: rest).take k, (g :: rest)[k], (g :: rest).drop (k + 1), ?_, ?_⟩
  · rw [List.getElem_cons_drop, List.take_append_drop]
  · rw [heq, List.eraseIdx_eq_take_drop_succ, List.getD_eq_getElem _ _ hk]

theorem drawPick_blk (s : State) : (drawPick s).2.blk = s.blk := (drawPick_spec s).1

/-- FIELDS ends at FIELDS or at the ENABLE stage of the job's mode (R153). -/
theorem seqInv_afterFields (hq : b.seq = afterFields job pending) (hjob : job.Configured)
    (hsub : pending.Sublist (fieldsOf job)) (hclear : job.DriversClear b)
    (hmade : ∀ f ∈ fieldsOf job, f ∉ pending → f.Holds b) : SeqInv b := by
  cases pending with
  | cons f rest => exact (seqInv_busy_iff hq).2 ⟨hjob, ⟨List.cons_ne_nil f rest, hsub, hclear⟩, hmade⟩
  | nil =>
    rw [afterFields, enableStage] at hq
    cases hmode : job.mode with
    | cont step =>
      rw [hmode] at hq
      exact (seqInv_busy_iff hq).2 ⟨hjob, ⟨rfl, hclear, by simp [hmode]⟩, hmade⟩
    | square =>
      rw [hmode] at hq
      exact (seqInv_busy_iff hq).2 ⟨hjob, ⟨rfl, hclear, hmode⟩, hmade⟩

theorem seqInv_seqDisable (hq : s.blk.seq = .busy job .disable pending) (h : SeqInv s.blk) :
    SeqInv (seqDisable job pending s).blk := by
  obtain ⟨hjob, rfl, -⟩ := (seqInv_busy_iff hq).1 h
  obtain ⟨-, -, -, hseq, hclear⟩ := seqDisable_frame job (fieldsOf job) s
  exact (seqInv_busy_iff hseq).2
    ⟨hjob, ⟨fieldsOf_ne_nil job, List.Sublist.refl _, hclear⟩, fun f hf hnot => absurd hf hnot⟩

/-- The write just made holds, and it is no write of another field of the job. -/
theorem seqInv_seqFields (hq : s.blk.seq = .busy job .fields pending) (h : SeqInv s.blk) :
    SeqInv (seqFields job pending s).blk := by
  obtain ⟨hjob, ⟨hne, hsub, hclear⟩, hmade⟩ := (seqInv_busy_iff hq).1 h
  obtain ⟨pre, g, post, rfl, heq⟩ := seqFields_cases job hne s
  have hleft : (pre ++ post).Sublist (pre ++ g :: post) := (List.sublist_cons_self g post).append_left pre
  rw [heq]
  refine seqInv_afterFields rfl hjob (hleft.trans hsub) ?_ fun f hf hnot => ?_
  · exact hclear.congr (by simp [drawPick_blk]) (by simp [drawPick_blk]) (by simp [drawPick_blk])
  · have hwritten : f.Holds (g.writeTo s.blk) := by
      by_cases hfg : f = g
      · exact hfg ▸ f.holds_self s.blk
      · exact FieldWrite.holds_writeTo hf (hsub.subset (by simp)) hfg (hmade f hf (by simp_all))
    exact hwritten.congr (by simp [Block.engine, drawPick_blk])

/-- After FIELDS all writes are made, and the stages to come leave the engine elements. -/
theorem SeqInv.next_stage {stage' : Stage} (hq : b.seq = .busy job stage pending) (hpending : pending = [])
    (h : SeqInv b) (hseq : c.seq = .busy job stage' []) (hengine : c.engine = b.engine)
    (hstage : StageInv job stage' [] c) : SeqInv c := by
  obtain ⟨hjob, -, hmade⟩ := (seqInv_busy_iff hq).1 h
  exact (seqInv_busy_iff hseq).2 ⟨hjob, hstage, fun f hf _ => (hmade f hf (by simp [hpending])).congr hengine⟩

theorem SeqInv.fieldsHold (hq : b.seq = .busy job stage []) (h : SeqInv b) : job.FieldsHold b := by
  obtain ⟨-, -, hmade⟩ := (seqInv_busy_iff hq).1 h
  exact fun f hf => hmade f hf List.not_mem_nil

/-- A setup request that fails leaves the enables, and goes to FACADE (R200). -/
theorem seqInv_of_fail (which : Peripheral) (hq : s.blk.seq = .busy job stage pending) (hpending : pending = [])
    (hclear : job.DriversClear s.blk) (h : SeqInv s.blk) :
    SeqInv (toStage job .facade (raiseSetupFault which (requestSetup which s).2)).blk := by
  rw [toStage_blk, raiseSetupFault_blk, requestSetup_blk]
  exact h.next_stage hq hpending rfl rfl ⟨rfl, hclear.congr rfl rfl rfl⟩

theorem seqInv_seqEnableDac (hq : s.blk.seq = .busy job .enableDac pending) (h : SeqInv s.blk) :
    SeqInv (seqEnableDac job s).blk := by
  obtain ⟨-, ⟨hpending, hclear, hmode⟩, -⟩ := (seqInv_busy_iff hq).1 h
  have hpulse := (job.driversClear_iff_of_cont hmode _).1 hclear
  obtain ⟨hen, heq⟩ | ⟨-, -, heq⟩ | ⟨-, -, heq⟩ := seqEnableDac_cases job s <;> rw [heq]
  · exact h.next_stage hq hpending rfl rfl ⟨rfl, hclear.congr rfl rfl rfl, hmode, hen⟩
  · rw [toStage_blk, emit_blk, setBlock_blk]
    exact h.next_stage hq hpending rfl rfl ⟨rfl, (job.driversClear_iff_of_cont hmode _).2 hpulse, hmode, rfl⟩
  · exact seqInv_of_fail .dac hq hpending hclear h

theorem seqInv_seqEnableTick (hq : s.blk.seq = .busy job .enableTick pending) (h : SeqInv s.blk) :
    SeqInv (seqEnableTick job s).blk := by
  obtain ⟨-, ⟨hpending, hclear, hmode, -⟩, -⟩ := (seqInv_busy_iff hq).1 h
  have hpulse := (job.driversClear_iff_of_cont hmode _).1 hclear
  obtain ⟨-, heq⟩ | ⟨-, -, heq⟩ | ⟨-, -, heq⟩ := seqEnableTick_cases job s <;> rw [heq]
  · exact h.next_stage hq hpending rfl rfl ⟨rfl, hclear.congr rfl rfl rfl⟩
  · rw [toStage_blk, emit_blk, setBlock_blk]
    exact h.next_stage hq hpending rfl rfl ⟨rfl, (job.driversClear_iff_of_cont hmode _).2 hpulse⟩
  · exact seqInv_of_fail .tickTimer hq hpending hclear h

theorem seqInv_seqEnablePulse (hq : s.blk.seq = .busy job .enablePulse pending) (h : SeqInv s.blk) :
    SeqInv (seqEnablePulse job s).blk := by
  obtain ⟨-, ⟨hpending, hclear, hmode⟩, -⟩ := (seqInv_busy_iff hq).1 h
  have hoff := (job.driversClear_iff_of_square hmode _).1 hclear
  obtain ⟨-, heq⟩ | ⟨-, -, heq⟩ | ⟨-, -, heq⟩ := seqEnablePulse_cases job s <;> rw [heq]
  · exact h.next_stage hq hpending rfl rfl ⟨rfl, hclear.congr rfl rfl rfl⟩
  · rw [toStage_blk, emit_blk, setBlock_blk]
    exact h.next_stage hq hpending rfl rfl ⟨rfl, (job.driversClear_iff_of_square hmode _).2 hoff⟩
  · exact seqInv_of_fail .pulse hq hpending hclear h

/-- Every micro-step leaves the APPLY at a stage that fits the block. -/
theorem seqInv_microStep (h : SeqInv s.blk) : SeqInv (microStep s).blk := by
  match hq : s.blk.seq with
  | .idle => rw [microStep_idle hq]; exact h
  | .busy job .disable pending => rw [microStep_disable hq]; exact seqInv_seqDisable hq h
  | .busy job .fields pending => rw [microStep_fields hq]; exact seqInv_seqFields hq h
  | .busy job .enableDac _ => rw [microStep_enableDac hq]; exact seqInv_seqEnableDac hq h
  | .busy job .enableTick _ => rw [microStep_enableTick hq]; exact seqInv_seqEnableTick hq h
  | .busy job .enablePulse _ => rw [microStep_enablePulse hq]; exact seqInv_seqEnablePulse hq h
  | .busy job .facade _ => rw [microStep_facade hq]; exact seqInv_of_idle rfl

end

/-! ## The block's invariant through a micro-step -/

section
variable {s : State} {b : Block} {job : Job} {stage : Stage} {pending : List FieldWrite}

theorem inv_seqDisable (hq : s.blk.seq = .busy job .disable pending) (h : s.blk.Inv) :
    (seqDisable job pending s).blk.Inv := by
  have hseq : SeqInv (seqDisable job pending s).blk := seqInv_seqDisable hq h.sequencer
  rw [← microStep_disable hq] at hseq ⊢
  cases hmode : job.mode with
  | square =>
    rw [squareDisableStopsTickThenDac s job pending hq hmode] at hseq ⊢
    exact { h with
      tick_needs_dac := nofun
      pulse_alone := fun _ => ⟨rfl, rfl⟩
      tick_plays := nofun
      facade_agrees := nofun
      sequencer := hseq }
  | cont step =>
    rw [continuousDisableDisarmsPulse s job pending step hq hmode] at hseq ⊢
    exact { h with
      pulse_alone := nofun
      facade_agrees := nofun
      sequencer := hseq }

/-- With the ticks on, the job is a continuous one, whose writes keep them playing. -/
theorem inv_seqFields (hq : s.blk.seq = .busy job .fields pending) (h : s.blk.Inv) :
    (seqFields job pending s).blk.Inv := by
  have hseq := seqInv_seqFields hq h.sequencer
  obtain ⟨hjob, ⟨hne, hsub, hclear⟩, -⟩ := (seqInv_busy_iff hq).1 h.sequencer
  obtain ⟨pre, f, post, rfl, heq⟩ := seqFields_cases job hne s
  have hf : f ∈ fieldsOf job := hsub.subset (by simp)
  rw [heq, setSeq_blk, applyField_blk, drawPick_blk] at hseq ⊢
  constructor
  case tick_plays =>
    intro hen
    rw [writeTo_tickEn] at hen
    cases hmode : job.mode with
    | cont step => exact hjob.writeTo_plays hmode hf (h.tick_plays hen)
    | square =>
      obtain ⟨hoff, -⟩ := (job.driversClear_iff_of_square hmode _).1 hclear
      simp [hen] at hoff
  case step_le => exact hjob.writeTo_step_le hf h.step_le
  case facade_agrees =>
    intro hidle
    cases hleft : pre ++ post <;> simp [hleft, afterFields] at hidle
  case sequencer => exact hseq
  case tick_needs_dac => simpa using h.tick_needs_dac
  case pulse_alone => simpa using h.pulse_alone
  case out_le => simpa using h.out_le
  case unconfigured => simpa using h.unconfigured
  case fault_source => simpa using h.fault_source

/-- The fault flags name their source (10_state.md R33), and nothing else of the block changes with a failed setup. -/
theorem Block.Inv.raise (which : Peripheral) (h : b.Inv)
    (hseq : SeqInv { faultFlags which b with seq := .busy job stage [] }) :
    Block.Inv { faultFlags which b with seq := .busy job stage [] } :=
  { h with
    facade_agrees := nofun
    fault_source := by
      have hsource := h.fault_source
      cases hfault : b.setupFault <;> cases which <;> simp_all [faultFlags, peripheralCode]
    sequencer := hseq }

/-- Where only `seq` moves on, the rest of the invariant stands. -/
theorem Block.Inv.next_stage (h : b.Inv) (hseq : SeqInv { b with seq := .busy job stage [] }) :
    Block.Inv { b with seq := .busy job stage [] } :=
  { h with
    facade_agrees := nofun
    sequencer := hseq }

theorem inv_seqEnableDac (hq : s.blk.seq = .busy job .enableDac pending) (h : s.blk.Inv) :
    (seqEnableDac job s).blk.Inv := by
  have hseq := seqInv_seqEnableDac hq h.sequencer
  obtain ⟨-, ⟨-, hclear, hmode⟩, -⟩ := (seqInv_busy_iff hq).1 h.sequencer
  have hpulse := (job.driversClear_iff_of_cont hmode _).1 hclear
  obtain ⟨-, heq⟩ | ⟨-, -, heq⟩ | ⟨-, -, heq⟩ := seqEnableDac_cases job s <;> rw [heq] at hseq ⊢
  · exact h.next_stage hseq
  · rw [toStage_blk, emit_blk, setBlock_blk] at hseq ⊢
    exact { h with
      tick_needs_dac := fun _ => rfl
      pulse_alone := fun hen => by simp [hpulse] at hen
      facade_agrees := nofun
      sequencer := hseq }
  · rw [toStage_blk, raiseSetupFault_blk, requestSetup_blk] at hseq ⊢
    exact h.raise .dac hseq

/-- The ticks start when the wave and the step of a continuous job are written (I3). -/
theorem inv_seqEnableTick (hq : s.blk.seq = .busy job .enableTick pending) (h : s.blk.Inv) :
    (seqEnableTick job s).blk.Inv := by
  have hseq := seqInv_seqEnableTick hq h.sequencer
  obtain ⟨hjob, ⟨rfl, hclear, hmode, hdac⟩, -⟩ := (seqInv_busy_iff hq).1 h.sequencer
  have hpulse := (job.driversClear_iff_of_cont hmode _).1 hclear
  obtain ⟨-, heq⟩ | ⟨-, -, heq⟩ | ⟨-, -, heq⟩ := seqEnableTick_cases job s <;> rw [heq] at hseq ⊢
  · exact h.next_stage hseq
  · obtain ⟨step, hstep⟩ : ∃ step, job.mode = .cont step := by cases hm : job.mode <;> simp_all
    obtain ⟨hone, -⟩ := hjob.step_spec hstep
    obtain ⟨hwritten, -, hwave⟩ := (job.fieldsHold_iff_of_cont hstep _).1 (h.sequencer.fieldsHold hq)
    have hplays : s.blk.activeWave ≠ .square ∧ 1 ≤ s.blk.phaseStep.toNat := by
      rw [hwave, hwritten]
      exact ⟨hjob.mode_square_iff.not.1 hmode, hone⟩
    rw [toStage_blk, emit_blk, setBlock_blk] at hseq ⊢
    exact { h with
      tick_needs_dac := fun _ => hdac
      pulse_alone := fun hen => by simp [hpulse] at hen
      tick_plays := fun _ => hplays
      facade_agrees := nofun
      sequencer := hseq }
  · rw [toStage_blk, raiseSetupFault_blk, requestSetup_blk] at hseq ⊢
    exact h.raise .tickTimer hseq

theorem inv_seqEnablePulse (hq : s.blk.seq = .busy job .enablePulse pending) (h : s.blk.Inv) :
    (seqEnablePulse job s).blk.Inv := by
  have hseq := seqInv_seqEnablePulse hq h.sequencer
  obtain ⟨-, ⟨-, hclear, hmode⟩, -⟩ := (seqInv_busy_iff hq).1 h.sequencer
  have hoff := (job.driversClear_iff_of_square hmode _).1 hclear
  obtain ⟨-, heq⟩ | ⟨-, -, heq⟩ | ⟨-, -, heq⟩ := seqEnablePulse_cases job s <;> rw [heq] at hseq ⊢
  · exact h.next_stage hseq
  · rw [toStage_blk, emit_blk, setBlock_blk] at hseq ⊢
    exact { h with
      pulse_alone := fun _ => hoff
      facade_agrees := nofun
      sequencer := hseq }
  · rw [toStage_blk, raiseSetupFault_blk, requestSetup_blk] at hseq ⊢
    exact h.raise .pulse hseq

/-- The engine holds the job that the readback registers now show (I5, R160). -/
theorem Job.FieldsHold.facade_agrees (hjob : job.Configured) (h : job.FieldsHold b) :
    job.amp = b.ampScale ∧ job.wave = b.activeWave ∧
    (job.wave ≠ .square → b.phaseStep.toNat * Config.fs = job.actual.toNat) ∧
    (job.wave = .square → b.pulseFreq = job.actual ∧ job.actual = job.t) := by
  cases hmode : job.mode with
  | cont step =>
    obtain ⟨hstep, hamp, hwave⟩ := (job.fieldsHold_iff_of_cont hmode b).1 h
    obtain ⟨-, -, hactual⟩ := hjob.step_spec hmode
    exact ⟨hamp.symm, hwave.symm, fun _ => hstep ▸ hactual,
      fun hsquare => by simp [← hjob.mode_square_iff, hmode] at hsquare⟩
  | square =>
    obtain ⟨hamp, hactive, hfreq⟩ := (job.fieldsHold_iff_of_square hmode b).1 h
    have hwave := hjob.mode_square_iff.1 hmode
    have hactual := hjob.square_actual hmode
    exact ⟨hamp.symm, hwave.trans hactive.symm, fun hcont => absurd hwave hcont,
      fun _ => ⟨hfreq.trans hactual.symm, hactual⟩⟩

theorem inv_seqFacade (hq : s.blk.seq = .busy job .facade pending) (h : s.blk.Inv) :
    (seqFacade job s).blk.Inv := by
  obtain ⟨hjob, ⟨rfl, -⟩, -⟩ := (seqInv_busy_iff hq).1 h.sequencer
  have hagrees := (h.sequencer.fieldsHold hq).facade_agrees hjob
  exact { h with
    facade_agrees := fun _ _ => hagrees
    unconfigured := nofun
    sequencer := seqInv_of_idle rfl }

/-- Every micro-step keeps the block's invariant. -/
theorem Block.Inv.of_microStep (h : s.blk.Inv) : (microStep s).blk.Inv := by
  match hq : s.blk.seq with
  | .idle => rw [microStep_idle hq]; exact h
  | .busy job .disable pending => rw [microStep_disable hq]; exact inv_seqDisable hq h
  | .busy job .fields pending => rw [microStep_fields hq]; exact inv_seqFields hq h
  | .busy job .enableDac _ => rw [microStep_enableDac hq]; exact inv_seqEnableDac hq h
  | .busy job .enableTick _ => rw [microStep_enableTick hq]; exact inv_seqEnableTick hq h
  | .busy job .enablePulse _ => rw [microStep_enablePulse hq]; exact inv_seqEnablePulse hq h
  | .busy job .facade _ => rw [microStep_facade hq]; exact inv_seqFacade hq h

end

/-! ## The block's invariant through an operation -/

theorem inv_blockReset : Block.reset.Inv where
  tick_needs_dac := nofun
  pulse_alone := nofun
  tick_plays := nofun
  step_le := by decide
  out_le := by decide
  facade_agrees := nofun
  unconfigured := fun _ => ⟨rfl, rfl, rfl, rfl⟩
  fault_source := by decide
  sequencer := seqInv_of_idle rfl

/-- The high byte of a product of two bytes is at most 254 (42_tick_engine.md R183). -/
theorem scale_toNat_le (raw amp : Byte) : (scale raw amp).toNat ≤ 254 := by
  have hraw : raw.toNat ≤ 255 := by omega
  have hamp : amp.toNat ≤ 255 := by omega
  have hprod : raw.toNat * amp.toNat ≤ 255 * 255 := Nat.mul_le_mul hraw hamp
  simp only [scale, BitVec.extractLsb'_toNat, BitVec.toNat_mul, BitVec.toNat_setWidth, Nat.shiftRight_eq_div_pow]
  rw [Nat.mod_eq_of_lt (a := raw.toNat) (by omega), Nat.mod_eq_of_lt (a := amp.toNat) (by omega)]
  omega

section
variable {s : State} {job : Job}

/-- A TICK writes `out` and `phase` (I4), which no other part of the invariant speaks of. -/
theorem Block.Inv.of_takeTick (h : s.blk.Inv) : (takeTick s).blk.Inv := by
  obtain ⟨table, -, -, heq⟩ | ⟨-, heq⟩ := takeTick_cases s <;> rw [heq]
  · refine { h with out_le := scale_toNat_le _ _, sequencer := ?_ }
    match hq : s.blk.seq with
    | .idle => exact seqInv_of_idle hq
    | .busy job stage pending =>
      have hq' : (playSample table s).blk.seq = .busy job stage pending := hq
      obtain ⟨hjob, hstage, hmade⟩ := (seqInv_busy_iff hq).1 h.sequencer
      exact (seqInv_busy_iff hq').2 ⟨hjob, hstage.congr, fun f hf hnot => (hmade f hf hnot).congr rfl⟩
  · exact h

theorem Block.Inv.of_startApply (h : s.blk.Inv) : (startApply s).blk.Inv :=
  { h with
    facade_agrees := nofun
    sequencer := seqInv_startApply s }

/-- No part of the invariant speaks of a staging register while `seq` is Idle. -/
theorem Block.Inv.withStaging {b : Block} (h : b.Inv) (hidle : b.seq = .idle) (target amp : Word) (wave : Wave) :
    Block.Inv { b with reqTarget := target, reqAmp := amp, reqWave := wave } :=
  { h with sequencer := seqInv_of_idle hidle }

/-- Every operation keeps the block's invariant, and RESET makes it hold. -/
theorem Block.Inv.of_exec {i : Instr} {s t : State} (hexec : exec i s = .next t) (h : s.resetTaken = true → s.blk.Inv) :
    t.blk.Inv := by
  obtain ⟨-, rfl⟩ | ⟨hr, ⟨-, rfl⟩ | ⟨-, -, rfl⟩ | ⟨-, hidle, hhost⟩⟩ := exec_cases hexec
  · exact inv_blockReset
  · exact (h hr).of_takeTick
  · exact h hr
  · obtain ⟨v, rfl⟩ | rfl | rfl | ⟨d, rfl⟩ | ⟨d, rfl⟩ | ⟨wave, rfl⟩ := hhost
    · exact h hr
    · exact h hr
    · exact (h hr).of_startApply
    · exact (h hr).withStaging hidle d s.blk.reqAmp s.blk.reqWave
    · exact (h hr).withStaging hidle s.blk.reqTarget d s.blk.reqWave
    · exact (h hr).withStaging hidle s.blk.reqTarget s.blk.reqAmp wave

end

/-! ## The invariant of the machine -/

/-- An operation that answers leaves the machine reset. -/
theorem exec_resetTaken {i : Instr} {s t : State} (h : exec i s = .next t) : t.resetTaken = true := by
  obtain ⟨-, rfl⟩ | ⟨hr, ⟨-, rfl⟩ | ⟨-, -, rfl⟩ | ⟨-, -, hhost⟩⟩ := exec_cases h
  · rfl
  · obtain ⟨htick, -, -⟩ := takeTick_frame s
    exact htick.trans hr
  · exact hr
  · obtain ⟨v, rfl⟩ | rfl | rfl | ⟨d, rfl⟩ | ⟨d, rfl⟩ | ⟨wave, rfl⟩ := hhost <;> exact hr

theorem head?_of_prefix {l l' : List Event} {e : Event} (h : l.head? = some e) (hp : l <+: l') : l'.head? = some e := by
  obtain ⟨es, rfl⟩ := hp
  simp [h]

/-- After the first RESET the history and the block are all that the invariant speaks of. -/
theorem State.Inv.of_reset {t : State} (hr : t.resetTaken = true) (hhist : t.obs.history.head? = some .reset)
    (hblk : t.blk.Inv) : t.Inv :=
  ⟨fun hunreset => by simp [hr] at hunreset, fun _ => hhist, fun _ => hblk⟩

/-- The ports at rest and the turns are no part of the invariant. -/
theorem State.Inv.of_restPorts {s : State} (h : s.Inv) : (restPorts s).Inv :=
  ⟨h.powered_up, h.history_begins, h.block⟩

theorem State.Inv.of_dropTurn {s : State} (h : s.Inv) : (dropTurn s).Inv :=
  ⟨h.powered_up, h.history_begins, h.block⟩

theorem State.Inv.of_microStep {s : State} (h : s.Inv) (hr : s.resetTaken = true) : (microStep s).Inv := by
  obtain ⟨hreset, -, -⟩ := microStep_frame s
  exact .of_reset (hreset.trans hr) (head?_of_prefix (h.history_begins hr) (microStep_history_prefix s))
    (h.block hr).of_microStep

/-- An operation keeps the invariant: the first RESET records the first event, and no other operation answers before it. -/
theorem State.Inv.of_exec {i : Instr} {s t : State} (h : s.Inv) (hexec : exec i s = .next t) : t.Inv := by
  have hblk : t.blk.Inv := Block.Inv.of_exec hexec h.block
  obtain ⟨hprefix, -⟩ := recordedBefore_of_exec hexec
  have hr : t.resetTaken = true := exec_resetTaken hexec
  cases hs : s.resetTaken with
  | true => exact .of_reset hr (head?_of_prefix (h.history_begins hs) hprefix) hblk
  | false =>
    obtain ⟨-, hempty, -⟩ := h.powered_up hs
    obtain ⟨-, rfl⟩ | ⟨htaken, -⟩ := exec_cases hexec
    · exact .of_reset hr (by simp [hempty]) hblk
    · simp [hs] at htaken

/-- Settles O48. -/
theorem resetHasInvariant : Obligations.ResetHasInvariant := .of_reset rfl rfl inv_blockReset

/-- Settles O49: each kind of move keeps the invariant. -/
theorem stepKeepsInvariant : Obligations.StepKeepsInvariant := by
  intro s t h hstep
  obtain ⟨-, -, rfl⟩ | ⟨hr, s0, rfl | rfl, rfl⟩ | ⟨w, rest, i, -, -, -, hexec⟩ := step_cases hstep
  · exact h.of_restPorts
  · exact h.of_restPorts.of_microStep hr
  · exact h.of_restPorts.of_dropTurn.of_microStep hr
  · exact h.of_restPorts.of_dropTurn.of_exec hexec

/-- Settles O50: by (I2) the ticks are off. -/
theorem noEffectiveTickWhilePulseArmed : Obligations.NoEffectiveTickWhilePulseArmed := by
  intro s h hr hpulse
  obtain ⟨htick, -⟩ := (h.block hr).pulse_alone hpulse
  exact exec_tick_eq_next_iff.2 ⟨hr, takeTick_of_disabled htick⟩

end Sys2Proof.Machine

/-! PROOFS. The order of a mode switch (spec/41_configurator.md R158): which step enables an output, and that the other
mode's outputs are off then. -/

namespace Sys2Proof.Machine

/-! ## Which stage enables an output -/

/-- The one stage that records the event, for the three events that enable an output (R155, R156). -/
def Event.enabledAt : Event → Option Stage
  | .dacEnable => some .enableDac
  | .tickStart => some .enableTick
  | .pulseArm => some .enablePulse
  | _ => none

/-- From `s` to `t` the history grows by events that enable no output, or do so at `stage`. -/
def EnablesOnlyAt (stage : Option Stage) (s t : State) : Prop :=
  ∃ es, t.obs.history = s.obs.history ++ es ∧ ∀ e ∈ es, e.enabledAt = none ∨ e.enabledAt = stage

section
variable {s t : State} {e : Event} {stage : Option Stage} {job : Job} {pending : List FieldWrite}

theorem EnablesOnlyAt.of_none (h : t.obs.history = s.obs.history) : EnablesOnlyAt stage s t :=
  ⟨[], by simp [h], nofun⟩

theorem EnablesOnlyAt.of_one (h : t.obs.history = s.obs.history ++ [e])
    (he : e.enabledAt = none ∨ e.enabledAt = stage) : EnablesOnlyAt stage s t :=
  ⟨[e], h, fun _ hmem => List.mem_singleton.1 hmem ▸ he⟩

/-- An enable event among the new ones belongs to the stage. -/
theorem EnablesOnlyAt.stage_eq {es : List Event} {stage' : Stage} (h : EnablesOnlyAt stage s t)
    (hes : t.obs.history = s.obs.history ++ es) (hmem : e ∈ es) (he : e.enabledAt = some stage') :
    stage = some stage' := by
  obtain ⟨es', hes', hall⟩ := h
  obtain rfl : es = es' := List.append_cancel_left (hes.symm.trans hes')
  obtain hnone | hstage := hall e hmem
  · rw [hnone] at he
    cases he
  · exact hstage.symm.trans he

theorem enablesOnlyAt_disable (hq : s.blk.seq = .busy job .disable pending) : EnablesOnlyAt stage s (microStep s) := by
  cases hmode : job.mode with
  | square =>
    refine ⟨_, by rw [squareDisableStopsTickThenDac s job pending hq hmode, List.append_assoc], fun e he => ?_⟩
    obtain ⟨-, rfl⟩ | ⟨-, rfl⟩ : s.blk.tickEn = true ∧ e = .tickStop ∨ s.blk.dacEn = true ∧ e = .dacDisable := by
      simpa using he
    · exact .inl rfl
    · exact .inl rfl
  | cont step =>
    refine ⟨_, by rw [continuousDisableDisarmsPulse s job pending step hq hmode], fun e he => ?_⟩
    obtain ⟨-, rfl⟩ : s.blk.pulseEn = true ∧ e = .pulseDisarm := by simpa using he
    exact .inl rfl

theorem enablesOnlyAt_fields (hq : s.blk.seq = .busy job .fields pending) : EnablesOnlyAt stage s (microStep s) := by
  rw [microStep_fields hq]
  cases pending with
  | nil => exact .of_none rfl
  | cons f rest =>
    obtain ⟨pre, g, post, -, heq⟩ := seqFields_cases job (List.cons_ne_nil f rest) s
    obtain ⟨-, -, hobs, -⟩ := drawPick_spec s
    rw [heq]
    cases g with
    | pulseFreq t => exact .of_one (e := .pulseFreq t) (by simp [applyField_obs, hobs]) (.inl rfl)
    | _ => exact .of_none (by simp [applyField_obs, hobs])

/-- A micro-step enables an output only at the stage where it stands. -/
theorem enablesOnlyAt_microStep {stage : Stage} (hq : s.blk.seq = .busy job stage pending) :
    EnablesOnlyAt (some stage) s (microStep s) := by
  cases stage with
  | disable => exact enablesOnlyAt_disable hq
  | fields => exact enablesOnlyAt_fields hq
  | enableDac =>
    rw [microStep_enableDac hq]
    obtain ⟨-, h⟩ | ⟨-, -, h⟩ | ⟨-, -, h⟩ := seqEnableDac_cases job s <;> rw [h]
    · exact .of_none rfl
    · exact .of_one (e := .dacEnable) (by simp) (.inr rfl)
    · exact .of_one (e := .setupFail .dac) (by simp) (.inl rfl)
  | enableTick =>
    rw [microStep_enableTick hq]
    obtain ⟨-, h⟩ | ⟨-, -, h⟩ | ⟨-, -, h⟩ := seqEnableTick_cases job s <;> rw [h]
    · exact .of_none rfl
    · exact .of_one (e := .tickStart) (by simp) (.inr rfl)
    · exact .of_one (e := .setupFail .tickTimer) (by simp) (.inl rfl)
  | enablePulse =>
    rw [microStep_enablePulse hq]
    obtain ⟨-, h⟩ | ⟨-, -, h⟩ | ⟨-, -, h⟩ := seqEnablePulse_cases job s <;> rw [h]
    · exact .of_none rfl
    · exact .of_one (e := .pulseArm) (by simp) (.inr rfl)
    · exact .of_one (e := .setupFail .pulse) (by simp) (.inl rfl)
  | facade => exact .of_none (by rw [microStep_facade hq]; rfl)

/-- A micro-step that records an enable event stands at the stage of that event. -/
theorem stage_of_enabled {es : List Event} {stage : Stage} (hes : (microStep s).obs.history = s.obs.history ++ es)
    (hmem : e ∈ es) (he : e.enabledAt = some stage) : ∃ job pending, s.blk.seq = .busy job stage pending := by
  match hq : s.blk.seq with
  | .idle =>
    have hnone : EnablesOnlyAt none s (microStep s) := .of_none (by rw [microStep_idle hq])
    cases hnone.stage_eq hes hmem he
  | .busy job stage' pending =>
    obtain rfl := Option.some.inj ((enablesOnlyAt_microStep hq).stage_eq hes hmem he)
    exact ⟨job, pending, rfl⟩

/-- No operation enables an output. -/
theorem enablesOnlyAt_exec {i : Instr} (h : exec i s = .next t) : EnablesOnlyAt none s t := by
  obtain ⟨-, rfl⟩ | ⟨-, ⟨-, rfl⟩ | ⟨-, -, rfl⟩ | ⟨-, -, hhost⟩⟩ := exec_cases h
  · exact .of_one (takeReset_history s) (.inl rfl)
  · obtain ⟨table, -, -, h⟩ | ⟨-, h⟩ := takeTick_cases s <;> rw [h]
    · exact .of_one (e := .dacWrite _) rfl (.inl rfl)
    · exact .of_none rfl
  · exact .of_none rfl
  · obtain ⟨v, rfl⟩ | rfl | rfl | ⟨d, rfl⟩ | ⟨d, rfl⟩ | ⟨wave, rfl⟩ := hhost <;> exact .of_none rfl

end

@[simp] theorem seqEnablePulse_dacEn (job : Job) (s : State) : (seqEnablePulse job s).blk.dacEn = s.blk.dacEn := by
  obtain ⟨-, h⟩ | ⟨-, -, h⟩ | ⟨-, -, h⟩ := seqEnablePulse_cases job s <;> simp [h, faultFlags]

@[simp] theorem seqEnableDac_pulseEn (job : Job) (s : State) : (seqEnableDac job s).blk.pulseEn = s.blk.pulseEn := by
  obtain ⟨-, h⟩ | ⟨-, -, h⟩ | ⟨-, -, h⟩ := seqEnableDac_cases job s <;> simp [h, faultFlags]

@[simp] theorem seqEnableTick_pulseEn (job : Job) (s : State) : (seqEnableTick job s).blk.pulseEn = s.blk.pulseEn := by
  obtain ⟨-, h⟩ | ⟨-, -, h⟩ | ⟨-, -, h⟩ := seqEnableTick_cases job s <;> simp [h, faultFlags]

/-- What R158 (b) asks of a step from `s` to `t` that records `es`. -/
def OrderedSwitch (s t : State) (es : List Event) : Prop :=
  (.pulseArm ∈ es → s.blk.dacEn = false ∧ s.blk.tickEn = false ∧ t.blk.dacEn = false ∧ t.blk.tickEn = false) ∧
  (.dacEnable ∈ es ∨ .tickStart ∈ es → s.blk.pulseEn = false ∧ t.blk.pulseEn = false)

/-- The stage that enables an output stands after DISABLE, which has cleared the other mode's drivers. -/
theorem orderedSwitch_microStep {s : State} {es : List Event} (h : SeqInv s.blk)
    (hes : (microStep s).obs.history = s.obs.history ++ es) : OrderedSwitch s (microStep s) es := by
  refine ⟨fun hmem => ?_, fun hmem => ?_⟩
  · obtain ⟨job, pending, hq⟩ := stage_of_enabled hes hmem rfl
    obtain ⟨-, ⟨-, hclear, hmode⟩, -⟩ := (seqInv_busy_iff hq).1 h
    obtain ⟨htick, hdac⟩ := (job.driversClear_iff_of_square hmode _).1 hclear
    simp [microStep_enablePulse hq, htick, hdac]
  · obtain hdac | htick := hmem
    · obtain ⟨job, pending, hq⟩ := stage_of_enabled hes hdac rfl
      obtain ⟨-, ⟨-, hclear, hmode⟩, -⟩ := (seqInv_busy_iff hq).1 h
      simp [microStep_enableDac hq, (job.driversClear_iff_of_cont hmode _).1 hclear]
    · obtain ⟨job, pending, hq⟩ := stage_of_enabled hes htick rfl
      obtain ⟨-, ⟨-, hclear, hmode, -⟩, -⟩ := (seqInv_busy_iff hq).1 h
      simp [microStep_enableTick hq, (job.driversClear_iff_of_cont hmode _).1 hclear]

/-- A step that enables no output has nothing to keep in order. -/
theorem EnablesOnlyAt.orderedSwitch {s t : State} {es : List Event} (h : EnablesOnlyAt none s t)
    (hes : t.obs.history = s.obs.history ++ es) : OrderedSwitch s t es := by
  have hnot {e : Event} {stage : Stage} (he : e.enabledAt = some stage) : e ∉ es :=
    fun hmem => Option.some_ne_none _ (h.stage_eq hes hmem he).symm
  exact ⟨fun hmem => absurd hmem (hnot rfl), fun hmem => (hmem.elim (hnot rfl) (hnot rfl)).elim⟩

/-- Settles O51: an output is enabled by a micro-step alone. -/
theorem modeSwitchOrdering : Obligations.ModeSwitchOrdering := by
  intro s t es h hr hstep hes
  have hseq : SeqInv s.blk := (h.block hr).sequencer
  obtain ⟨-, -, rfl⟩ | ⟨-, s0, rfl | rfl, rfl⟩ | ⟨w, rest, i, -, -, -, hexec⟩ := step_cases hstep
  · exact EnablesOnlyAt.orderedSwitch (.of_none rfl) hes
  · exact orderedSwitch_microStep (s := restPorts s) hseq hes
  · exact orderedSwitch_microStep (s := dropTurn (restPorts s)) hseq hes
  · exact (enablesOnlyAt_exec hexec).orderedSwitch (s := dropTurn (restPorts s)) hes

end Sys2Proof.Machine

/-! PROOFS. Uninterrupted APPLYs (spec/41_configurator.md R150, R157, R161, R162, 70_reset_and_hazards.md R233): with no turn
left the Sequencer runs to FACADE, and a second APPLY of the same values writes what already stands. -/

namespace Sys2Proof.Machine

/-! ## Steps with no turn left -/

/-- With no turn left the Sequencer moves; with no APPLY pending its micro-step is none. -/
theorem step_no_turn {s : State} (ht : s.inp.turns = []) (hr : s.resetTaken = true) :
    step s = .next (microStep (restPorts s)) := by
  match hq : s.blk.seq with
  | .idle =>
    have hidle : (restPorts s).blk.seq = .idle := hq
    simp [step, nextMove, ht, hq, microStep_idle hidle]
  | .busy job stage pending => simp [step, nextMove, ht, hr, hq]

/-- What each micro-step brings one step further stands at the end of a run with no turn left. -/
theorem run_no_turn {P : Nat → State → Prop} (hP : ∀ n t, P (n + 1) t → P n (microStep (restPorts t))) (n : Nat) :
    ∀ t : State, t.inp.turns = [] → t.resetTaken = true → P n t →
      ∃ u, Host.Core.run Sys2Proof.core n t = .next u ∧ u.inp.turns = [] ∧ P 0 u := by
  induction n with
  | zero => exact fun t ht _ h => ⟨t, rfl, ht, h⟩
  | succ n ih =>
    intro t ht hr h
    obtain ⟨hreset, hturns, -⟩ := microStep_frame (restPorts t)
    rw [run_succ_of_next (step_no_turn ht hr)]
    exact ih _ (hturns.trans ht) (hreset.trans hr) (hP n t h)

/-- An uninterrupted APPLY: its start and seven micro-steps (R233). -/
theorem runApply_no_turn {P : Nat → State → Prop} (hP : ∀ n t, P (n + 1) t → P n (microStep (restPorts t))) {s : State}
    (haccepts : s.Accepts) (ht : s.inp.turns = []) (hstart : P 7 (startApply (restPorts s))) :
    ∃ t, runApply s = .next t ∧ t.inp.turns = [] ∧ P 0 t := by
  have hstep : step (offer (encode (.wrCtrl true)) s) = .next (startApply (restPorts s)) :=
    step_apply ⟨haccepts.reset_taken, haccepts.idle⟩ (offer_turns s _)
  rw [runApply, run_succ_of_next hstep]
  exact run_no_turn hP 7 _ ht haccepts.reset_taken hstart

/-! ## What an APPLY leaves as it was -/

/-- The engine element that belongs to the other mode: PULSE_FREQ for a continuous job, PHASE_STEP for a square one. -/
def Job.untouched (job : Job) (b : Block) : Word ⊕ Byte :=
  match job.mode with
  | .cont _ => .inl b.pulseFreq
  | .square => .inr b.phaseStep

section
variable {s t : State} {b c : Block} {job : Job} {n : Nat}

theorem Job.untouched_congr (he : c.engine = b.engine) : job.untouched c = job.untouched b := by
  simp only [Block.engine, Prod.mk.injEq] at he
  unfold Job.untouched
  cases job.mode <;> simp [he]

theorem Job.untouched_writeTo {f : FieldWrite} (hf : f ∈ fieldsOf job) (b : Block) :
    job.untouched (f.writeTo b) = job.untouched b := by
  unfold Job.untouched
  cases hmode : job.mode with
  | cont step => obtain rfl | rfl | rfl := (mem_fieldsOf_iff_of_cont hmode f).1 hf <;> rfl
  | square => obtain rfl | rfl | rfl := (mem_fieldsOf_iff_of_square hmode f).1 hf <;> rfl

/-- Of all micro-steps only FIELDS writes an engine element, by one of the pending writes (R162). -/
theorem microStep_engine (s : State) :
    (microStep s).blk.engine = s.blk.engine ∨
    ∃ job pending f, s.blk.seq = .busy job .fields pending ∧ f ∈ pending ∧
      (microStep s).blk.engine = (f.writeTo s.blk).engine := by
  match hq : s.blk.seq with
  | .busy job .fields (f :: rest) =>
    obtain ⟨pre, g, post, hpending, heq⟩ := seqFields_cases job (List.cons_ne_nil f rest) s
    exact .inr ⟨job, _, g, rfl, by simp [hpending], by simp [microStep_fields hq, heq, drawPick_blk, Block.engine]⟩
  | .idle => exact .inl (by rw [microStep_idle hq])
  | .busy job .fields [] => exact .inl (by rw [microStep_fields hq]; rfl)
  | .busy job .disable pending =>
    left
    cases hmode : job.mode with
    | square => rw [squareDisableStopsTickThenDac s job pending hq hmode]; rfl
    | cont step => rw [continuousDisableDisarmsPulse s job pending step hq hmode]; rfl
  | .busy job .enableDac _ =>
    left
    rw [microStep_enableDac hq]
    obtain ⟨-, h⟩ | ⟨-, -, h⟩ | ⟨-, -, h⟩ := seqEnableDac_cases job s <;> simp [h, faultFlags, Block.engine]
  | .busy job .enableTick _ =>
    left
    rw [microStep_enableTick hq]
    obtain ⟨-, h⟩ | ⟨-, -, h⟩ | ⟨-, -, h⟩ := seqEnableTick_cases job s <;> simp [h, faultFlags, Block.engine]
  | .busy job .enablePulse _ =>
    left
    rw [microStep_enablePulse hq]
    obtain ⟨-, h⟩ | ⟨-, -, h⟩ | ⟨-, -, h⟩ := seqEnablePulse_cases job s <;> simp [h, faultFlags, Block.engine]
  | .busy job .facade _ => exact .inl (by rw [microStep_facade hq]; rfl)

/-- The pending job, if there is one, is `job`. -/
def Seq.Runs (q : Seq) (job : Job) : Prop := ∀ job' stage pending, q = .busy job' stage pending → job' = job

/-- The pending APPLY is the one begun at `s`. -/
theorem StageProgress.runs (h : StageProgress s t n) : t.blk.seq.Runs s.requestedJob := by
  intro job stage pending hq
  obtain ⟨hprogress, -⟩ := (stageProgress_iff hq).1 h
  cases stage <;> exact hprogress.1

theorem microStep_untouched (hruns : s.blk.seq.Runs job) (h : SeqInv s.blk) :
    job.untouched (microStep s).blk = job.untouched s.blk := by
  obtain heq | ⟨job', pending, f, hq, hf, heq⟩ := microStep_engine s
  · exact job.untouched_congr heq
  · obtain rfl := hruns _ _ _ hq
    obtain ⟨-, ⟨-, hsub, -⟩, -⟩ := (seqInv_busy_iff hq).1 h
    exact (job'.untouched_congr heq).trans (job'.untouched_writeTo (hsub.subset hf) s.blk)

/-! ## The end of an APPLY -/

/-- Of all micro-steps only FACADE ends an APPLY. -/
theorem facade_of_microStep_idle (h : (microStep s).blk.seq = .idle) :
    s.blk.seq = .idle ∨ ∃ job pending, s.blk.seq = .busy job .facade pending := by
  match hq : s.blk.seq with
  | .idle => exact .inl rfl
  | .busy job .facade pending => exact .inr ⟨job, pending, rfl⟩
  | .busy job .disable pending =>
    obtain ⟨-, -, -, hseq, -⟩ := seqDisable_frame job pending s
    rw [microStep_disable hq, hseq] at h
    cases h
  | .busy job .fields [] =>
    rw [microStep_fields hq, seqFields, setSeq_blk, afterFields] at h
    cases h
  | .busy job .fields (f :: rest) =>
    obtain ⟨pre, g, post, -, heq⟩ := seqFields_cases job (List.cons_ne_nil f rest) s
    rw [microStep_fields hq, heq, setSeq_blk] at h
    cases hleft : pre ++ post <;> rw [hleft, afterFields] at h <;> cases h
  | .busy job .enableDac _ =>
    rw [microStep_enableDac hq] at h
    obtain ⟨-, heq⟩ | ⟨-, -, heq⟩ | ⟨-, -, heq⟩ := seqEnableDac_cases job s <;> rw [heq, toStage_blk] at h <;> cases h
  | .busy job .enableTick _ =>
    rw [microStep_enableTick hq] at h
    obtain ⟨-, heq⟩ | ⟨-, -, heq⟩ | ⟨-, -, heq⟩ := seqEnableTick_cases job s <;> rw [heq, toStage_blk] at h <;> cases h
  | .busy job .enablePulse _ =>
    rw [microStep_enablePulse hq] at h
    obtain ⟨-, heq⟩ | ⟨-, -, heq⟩ | ⟨-, -, heq⟩ := seqEnablePulse_cases job s <;> rw [heq, toStage_blk] at h <;> cases h

/-- The engine holds the job, and the other mode's drivers are off. -/
def Job.InEngine (job : Job) (b : Block) : Prop := job.FieldsHold b ∧ job.DriversClear b

/-- `t` stands in, or after, the uninterrupted APPLY begun at `s`, at most `n` micro-steps from its end. -/
structure EngineProgress (s : State) (n : Nat) (t : State) : Prop where
  apply : ApplyProgress s t n
  seq_inv : SeqInv t.blk
  ended : t.blk.seq = .idle → s.requestedJob.InEngine t.blk
  untouched : s.requestedJob.untouched t.blk = s.requestedJob.untouched s.blk
  phase : t.blk.phase = s.blk.phase
  out : t.blk.out = s.blk.out

/-- FACADE comes when all fields are written (R150). -/
theorem inEngine_of_microStep_idle (hruns : t.blk.seq.Runs job) (h : SeqInv t.blk)
    (hended : t.blk.seq = .idle → job.InEngine t.blk) (hidle : (microStep t).blk.seq = .idle) :
    job.InEngine (microStep t).blk := by
  obtain hq | ⟨job', pending, hq⟩ := facade_of_microStep_idle hidle
  · rw [microStep_idle hq]
    exact hended hq
  · obtain rfl := hruns _ _ _ hq
    obtain ⟨-, ⟨rfl, hclear⟩, -⟩ := (seqInv_busy_iff hq).1 h
    rw [microStep_facade hq]
    exact ⟨fun f hf => (h.fieldsHold hq f hf).congr rfl, hclear.congr rfl rfl rfl⟩

theorem engineProgress_microStep (n : Nat) (t : State) (h : EngineProgress s (n + 1) t) :
    EngineProgress s n (microStep (restPorts t)) := by
  obtain ⟨happly, hseq, hended, huntouched, hphase, hout⟩ := h
  have hruns : (restPorts t).blk.seq.Runs s.requestedJob := happly.stage.runs
  have happly' : ApplyProgress s (restPorts t) (n + 1) := { happly with stage := happly.stage.congr rfl rfl }
  obtain ⟨hphase', hout', -⟩ := sequencerLeavesPhaseAlone (restPorts t)
  exact {
    apply := applyProgress_microStep happly'
    seq_inv := seqInv_microStep (s := restPorts t) hseq
    ended := inEngine_of_microStep_idle (t := restPorts t) hruns hseq hended
    untouched := (microStep_untouched (s := restPorts t) hruns hseq).trans huntouched
    phase := hphase'.trans hphase
    out := hout'.trans hout }

theorem engineProgress_startApply (hr : s.resetTaken = true) : EngineProgress s 7 (startApply (restPorts s)) where
  apply := { applyProgress_startApply hr with }
  seq_inv := seqInv_startApply (restPorts s)
  ended := nofun
  untouched := s.requestedJob.untouched_congr rfl
  phase := rfl
  out := rfl

/-- An uninterrupted APPLY comes to its end. -/
theorem exists_runApply (haccepts : s.Accepts) (ht : s.inp.turns = []) :
    ∃ t, runApply s = .next t ∧ t.inp.turns = [] ∧ EngineProgress s 0 t :=
  runApply_no_turn engineProgress_microStep haccepts ht (engineProgress_startApply haccepts.reset_taken)

theorem EngineProgress.idle (h : EngineProgress s 0 t) : t.blk.seq = .idle :=
  Seq.eq_idle_of_stepsLeft (Nat.le_zero.1 h.apply.stage.2)

theorem EngineProgress.accepts (h : EngineProgress s 0 t) : t.Accepts := ⟨h.apply.reset_taken, h.idle⟩

theorem EngineProgress.inReadback (h : EngineProgress s 0 t) : s.requestedJob.InReadback t.blk := by
  obtain ⟨⟨hread, -⟩, -⟩ := (stageProgress_iff h.idle).1 h.apply.stage
  exact hread

theorem State.requestedJob_configured (s : State) : s.requestedJob.Configured := ⟨_, _, _, rfl⟩

theorem State.requestedJob_square_iff (s : State) : s.requestedJob.mode = .square ↔ s.blk.reqWave = .square :=
  configure_mode_square_iff _ _ _

end

/-- Settles O52. -/
theorem applyCompletes : Obligations.ApplyCompletes := by
  intro s haccepts ht
  obtain ⟨t, hrun, hturns, h⟩ := exists_runApply haccepts ht
  obtain ⟨htarget, hactual, hamp, hwave, hconf⟩ := h.inReadback
  obtain ⟨hfields, -⟩ := h.ended h.idle
  obtain ⟨hscale, hactive, -, -⟩ := hfields.facade_agrees s.requestedJob_configured
  have hreq : s.requestedJob.wave = s.blk.reqWave := configure_wave _ _ _
  have huntouched := h.untouched
  refine ⟨t, hrun, h.accepts, htarget, hactual, hamp, hwave.trans hreq, hconf, hfields, hscale.symm,
    hactive.symm.trans hreq, fun step hstep => ?_, fun hsquare => ?_, fun hsquare => ?_, fun hcont => ?_,
    h.phase, h.out, h.apply.req_target, h.apply.req_amp, h.apply.req_wave, hturns⟩
  · obtain ⟨hstepHolds, -, -⟩ := (Job.fieldsHold_iff_of_cont hstep _).1 hfields
    exact hstepHolds
  · obtain ⟨-, -, hfreq⟩ := (Job.fieldsHold_iff_of_square (s.requestedJob_square_iff.2 hsquare) _).1 hfields
    exact hfreq
  · simpa [Job.untouched, s.requestedJob_square_iff.2 hsquare] using huntouched
  · cases hmode : s.requestedJob.mode with
    | square => exact absurd (s.requestedJob_square_iff.1 hmode) hcont
    | cont step => simpa [Job.untouched, hmode] using huntouched

/-! ## A second APPLY of the same values -/

/-- The block is as an APPLY of the job leaves it with its output on. -/
structure Job.Settled (job : Job) (b : Block) : Prop where
  fields : job.FieldsHold b
  output : job.OutputOn b
  readback : job.InReadback b

section
variable {s t : State} {job : Job} {stage : Stage} {pending : List FieldWrite}

/-- The micro-step from `s` changes nothing of the block but `seq`. -/
def State.MovesSeqOnly (s : State) : Prop := ∃ q, (microStep s).blk = { s.blk with seq := q }

theorem Job.Settled.movesSeqOnly_disable (h : job.Settled s.blk) (hq : s.blk.seq = .busy job .disable pending) :
    s.MovesSeqOnly := by
  cases hmode : job.mode with
  | square =>
    obtain ⟨hdac, htick, -⟩ := (job.outputOn_iff_of_square hmode _).1 h.output
    exact ⟨.busy job .fields pending, by simp [squareDisableStopsTickThenDac s job pending hq hmode, hdac, htick]⟩
  | cont step =>
    obtain ⟨-, -, hpulse⟩ := (job.outputOn_iff_of_cont (by simp [hmode]) _).1 h.output
    exact ⟨.busy job .fields pending, by simp [continuousDisableDisarmsPulse s job pending step hq hmode, hpulse]⟩

/-- No micro-step of a settled job changes the block but for `seq`: the drivers of the other mode are off, the fields hold
their values, the output is on, and the readback registers show the job (R161). -/
theorem Job.Settled.movesSeqOnly (h : job.Settled s.blk) (hruns : s.blk.seq.Runs job) (hseq : SeqInv s.blk) :
    s.MovesSeqOnly := by
  match hq : s.blk.seq with
  | .idle => exact ⟨s.blk.seq, by rw [microStep_idle hq]⟩
  | .busy job' stage pending =>
    obtain rfl := hruns _ _ _ hq
    obtain ⟨-, hstage, -⟩ := (seqInv_busy_iff hq).1 hseq
    cases stage with
    | disable => exact h.movesSeqOnly_disable hq
    | fields =>
      obtain ⟨hne, hsub, -⟩ := hstage
      obtain ⟨pre, f, post, rfl, heq⟩ := seqFields_cases job' hne s
      have hholds : f.writeTo s.blk = s.blk := h.fields f (hsub.subset (by simp))
      exact ⟨_, by rw [microStep_fields hq, heq, setSeq_blk, applyField_blk, drawPick_blk, hholds]⟩
    | enableDac =>
      obtain ⟨-, -, hmode⟩ := hstage
      obtain ⟨hdac, -, -⟩ := (job'.outputOn_iff_of_cont hmode _).1 h.output
      obtain ⟨hasks, -⟩ := enableDacAsksPlatform s job' pending hq
      exact ⟨_, by rw [hasks hdac]⟩
    | enableTick =>
      obtain ⟨-, -, hmode, -⟩ := hstage
      obtain ⟨-, htick, -⟩ := (job'.outputOn_iff_of_cont hmode _).1 h.output
      obtain ⟨hasks, -⟩ := enableTickAsksPlatform s job' pending hq
      exact ⟨_, by rw [hasks htick]⟩
    | enablePulse =>
      obtain ⟨-, -, hmode⟩ := hstage
      obtain ⟨-, -, hpulse⟩ := (job'.outputOn_iff_of_square hmode _).1 h.output
      obtain ⟨hasks, -⟩ := enablePulseAsksPlatform s job' pending hq
      exact ⟨_, by rw [hasks hpulse]⟩
    | facade =>
      obtain ⟨htarget, hactual, hamp, hwave, hconf⟩ := h.readback
      exact ⟨_, by
        rw [facadeCompletesApply s job' pending hq, ← htarget, ← hactual, ← hamp, ← hwave, ← hconf]⟩

/-- Nothing that is settled speaks of `seq`. -/
theorem Job.Settled.withSeq {b : Block} (h : job.Settled b) (q : Seq) : job.Settled { b with seq := q } where
  fields := fun f hf => (h.fields f hf).congr rfl
  output := h.output
  readback := h.readback

/-- A second APPLY of the settled job: its progress, and the block it leaves alone. -/
def SettledProgress (s : State) (n : Nat) (t : State) : Prop :=
  EngineProgress s n t ∧ ∃ q, t.blk = { s.blk with seq := q }

theorem settledProgress_microStep (hset : s.requestedJob.Settled s.blk) (n : Nat) (t : State)
    (h : SettledProgress s (n + 1) t) : SettledProgress s n (microStep (restPorts t)) := by
  obtain ⟨hprogress, q, hblk⟩ := h
  have hset' : s.requestedJob.Settled (restPorts t).blk := by
    rw [restPorts_blk, hblk]
    exact hset.withSeq q
  obtain ⟨q', hq'⟩ := hset'.movesSeqOnly hprogress.apply.stage.runs hprogress.seq_inv
  exact ⟨engineProgress_microStep n t hprogress, q', by rw [hq', restPorts_blk, hblk]⟩

/-- From a state where the requested job is settled, an APPLY leaves the whole block as it was. -/
theorem runApply_of_settled (haccepts : s.Accepts) (ht : s.inp.turns = []) (hset : s.requestedJob.Settled s.blk) :
    ∃ t, runApply s = .next t ∧ t.blk = s.blk := by
  obtain ⟨t, hrun, -, hprogress, q, hblk⟩ := runApply_no_turn (settledProgress_microStep hset) haccepts ht
    ⟨engineProgress_startApply haccepts.reset_taken, _, rfl⟩
  have hseq : q = s.blk.seq := by
    have hidle := hprogress.idle
    rw [hblk] at hidle
    exact hidle.trans haccepts.idle.symm
  exact ⟨t, hrun, by rw [hblk, hseq]⟩

/-- After an APPLY the staging registers still ask for the same job (R140). -/
theorem EngineProgress.requestedJob_eq {n : Nat} (h : EngineProgress s n t) : t.requestedJob = s.requestedJob := by
  rw [State.requestedJob, h.apply.req_target, h.apply.req_amp, h.apply.req_wave, State.requestedJob]

/-- An APPLY that ends with its output enabled settles its job. -/
theorem EngineProgress.settled (h : EngineProgress s 0 t)
    (hout : s.requestedJob.DriversClear t.blk → s.requestedJob.OutputOn t.blk) : t.requestedJob.Settled t.blk := by
  obtain ⟨hfields, hclear⟩ := h.ended h.idle
  rw [h.requestedJob_eq]
  exact ⟨hfields, hout hclear, h.inReadback⟩

end

/-- Settles O54: the readback registers show the same job after both APPLYs, and a settled one changes nothing. -/
theorem applyIsIdempotent : Obligations.ApplyIsIdempotent := by
  intro s t haccepts ht hrun
  obtain ⟨t', hrun', hturns, h⟩ := exists_runApply haccepts ht
  obtain rfl : t = t' := Host.Outcome.next.inj (hrun.symm.trans hrun')
  obtain ⟨u, hrunU, -, hU⟩ := exists_runApply h.accepts hturns
  have hsame (hset : t.requestedJob.Settled t.blk) : u.blk = t.blk := by
    obtain ⟨u', hrunU', hblk⟩ := runApply_of_settled h.accepts hturns hset
    obtain rfl : u = u' := Host.Outcome.next.inj (hrunU.symm.trans hrunU')
    exact hblk
  obtain ⟨htarget, hactual, hamp, hwave, -⟩ := h.inReadback
  obtain ⟨htargetU, hactualU, hampU, hwaveU, -⟩ := h.requestedJob_eq ▸ hU.inReadback
  refine ⟨u, hrunU, htargetU.trans htarget.symm, hactualU.trans hactual.symm, hampU.trans hamp.symm,
    hwaveU.trans hwave.symm, fun hcont hdac htick => hsame (h.settled fun hclear => ?_),
    fun hsquare hpulse => hsame (h.settled fun hclear => ?_)⟩
  · have hmode := s.requestedJob_square_iff.not.2 hcont
    exact (Job.outputOn_iff_of_cont hmode _).2 ⟨hdac, htick, (Job.driversClear_iff_of_cont hmode _).1 hclear⟩
  · have hmode := s.requestedJob_square_iff.2 hsquare
    obtain ⟨htick, hdac⟩ := (Job.driversClear_iff_of_square hmode _).1 hclear
    exact (Job.outputOn_iff_of_square hmode _).2 ⟨hdac, htick, hpulse⟩

end Sys2Proof.Machine

/-! PROOFS. The tick engine (spec/42_tick_engine.md R180 to R188): the scaler, one TICK, the phase after k advances, and
the samples that a row of TICKs plays. -/

namespace Sys2Proof.Machine

/-! ## The scaler -/

/-- R183: the 16-bit product does not wrap, so its high byte is the quotient by 256. -/
theorem scale_toNat (raw amp : Byte) : (scale raw amp).toNat = raw.toNat * amp.toNat / 256 := by
  have hprod : raw.toNat * amp.toNat ≤ 255 * 255 := Nat.mul_le_mul (by omega) (by omega)
  simp only [scale, BitVec.extractLsb'_toNat, BitVec.toNat_mul, BitVec.toNat_setWidth, Nat.shiftRight_eq_div_pow]
  rw [Nat.mod_eq_of_lt (a := raw.toNat) (by omega), Nat.mod_eq_of_lt (a := amp.toNat) (by omega)]
  omega

theorem scale_eq_ofNat (raw amp : Byte) : scale raw amp = BitVec.ofNat 8 (raw.toNat * amp.toNat / 256) := by
  rw [← scale_toNat, BitVec.ofNat_toNat, BitVec.setWidth_eq]

theorem scale_mono {raw raw' amp amp' : Byte} (hraw : raw.toNat ≤ raw'.toNat) (hamp : amp.toNat ≤ amp'.toNat) :
    (scale raw amp).toNat ≤ (scale raw' amp').toNat := by
  rw [scale_toNat, scale_toNat]
  exact Nat.div_le_div_right (Nat.mul_le_mul hraw hamp)

/-- Full amplitude is 255/256, and costs every sample but 0 exactly one. -/
theorem scale_255_toNat (raw : Byte) : (scale raw 255).toNat = raw.toNat - 1 := by
  have h255 : (255 : Byte).toNat = 255 := rfl
  rw [scale_toNat, h255]
  omega

/-- A smaller amplitude gives no more than full amplitude. -/
theorem scale_le_full (raw amp : Byte) : (scale raw amp).toNat ≤ raw.toNat - 1 := by
  have h255 : (255 : Byte).toNat = 255 := rfl
  rw [← scale_255_toNat]
  exact scale_mono le_rfl (by omega)

/-- The greatest product is the only one whose high byte is 254. -/
theorem scale_toNat_eq_254_iff (raw amp : Byte) : (scale raw amp).toNat = 254 ↔ raw = 255 ∧ amp = 255 := by
  refine ⟨fun h => ?_, fun ⟨hraw, hamp⟩ => by rw [hraw, hamp]; rfl⟩
  rw [scale_toNat] at h
  have hraw : raw.toNat * amp.toNat ≤ raw.toNat * 255 := Nat.mul_le_mul_left _ (by omega)
  have hamp : raw.toNat * amp.toNat ≤ 255 * amp.toNat := Nat.mul_le_mul_right _ (by omega)
  constructor <;> bv_omega

/-- No amplitude gives a sample back unchanged, but for the sample 0. -/
theorem scale_eq_self_iff (raw amp : Byte) : scale raw amp = raw ↔ raw = 0 := by
  have hfull := scale_le_full raw amp
  refine ⟨fun h => ?_, fun h => ?_⟩ <;> rw [h] at hfull
  · bv_omega
  · rw [h]
    exact BitVec.eq_of_toNat_eq (Nat.le_zero.1 hfull)

theorem scale_zero (raw : Byte) : scale raw 0 = 0 := by
  simp [scale_eq_ofNat]

/-- Half amplitude drops the lowest bit. -/
theorem scale_128 (raw : Byte) : scale raw 128 = raw >>> 1 := by
  have h128 : (128 : Byte).toNat = 128 := rfl
  refine BitVec.eq_of_toNat_eq ?_
  rw [scale_toNat, h128, BitVec.toNat_ushiftRight, Nat.shiftRight_eq_div_pow]
  omega

/-- Settles O41, by the closed form of the scaler and its value at full amplitude. -/
theorem scalerProperties : Obligations.ScalerProperties := fun raw amp =>
  ⟨scale_toNat raw amp, scale_toNat_le raw amp, scale_toNat_eq_254_iff raw amp,
    (scale_le_full raw amp).trans (Nat.sub_le _ _), scale_eq_self_iff raw amp, fun _ => scale_255_toNat raw,
    scale_zero raw, scale_128 raw, fun _ h => scale_mono le_rfl h, fun _ h => scale_mono h le_rfl⟩

/-! ## One TICK -/

/-- R60, R181: the waves that play, each with its own table. -/
theorem tableOf_eq_some_of_mem {wave : Wave} {table : Table}
    (h : (wave, table) ∈ [(Wave.sine, Table.sine), (Wave.triangle, Table.triangle), (Wave.sawtooth, Table.sawtooth)]) :
    tableOf wave = some table := by
  simp only [List.mem_cons, Prod.mk.injEq, List.not_mem_nil, or_false] at h
  obtain ⟨rfl, rfl⟩ | ⟨rfl, rfl⟩ | ⟨rfl, rfl⟩ := h <;> rfl

theorem advancePhase_toNat (phase step : Byte) :
    (advancePhase phase step).toNat = (phase.toNat + step.toNat) % 256 := BitVec.toNat_add phase step

/-- Settles O36: the sample and the phase by their equations, the rest by what playing a sample changes. -/
theorem effectiveTickPlaysSample : Obligations.EffectiveTickPlaysSample := by
  refine ⟨decodeOp_evt 0#4, fun s table hreset hen hmem => ⟨_, _, scale_toNat _ _, advancePhase_toNat _ _, ?_⟩⟩
  exact exec_tick_eq_next_iff.2 ⟨hreset, takeTick_of_table hen (tableOf_eq_some_of_mem hmem)⟩

/-- Settles O37, by the two idle conditions of the tick engine. -/
theorem idleTickHasNoEffect : Obligations.IdleTickHasNoEffect := fun _ hreset hidle =>
  exec_tick_eq_next_iff.2 ⟨hreset, hidle.elim takeTick_of_disabled takeTick_of_square⟩

/-! ## The phase after k advances -/

/-- The phase that `k` TICKs reach from `p` with the constant step `step` (R185, R186). -/
def phaseAfter (step : Byte) (k : Nat) (p : Byte) : Byte := (fun q => advancePhase q step)^[k] p

theorem phaseAfter_succ (step : Byte) (k : Nat) (p : Byte) :
    phaseAfter step (k + 1) p = phaseAfter step k (advancePhase p step) := Function.iterate_succ_apply _ k p

/-- The wrap at every advance is one wrap at the end. -/
theorem phaseAfter_toNat (step : Byte) (k : Nat) (p : Byte) :
    (phaseAfter step k p).toNat = (p.toNat + k * step.toNat) % 256 := by
  induction k generalizing p with
  | zero => simp [phaseAfter, Nat.mod_eq_of_lt p.isLt]
  | succ k ih => rw [phaseAfter_succ, ih, advancePhase_toNat, Nat.mod_add_mod, Nat.succ_mul, Nat.add_assoc,
      Nat.add_comm step.toNat]

theorem phaseAfter_eq_ofNat (step : Byte) (k : Nat) (p : Byte) :
    phaseAfter step k p = BitVec.ofNat 8 (p.toNat + k * step.toNat) :=
  BitVec.eq_of_toNat_eq (by rw [phaseAfter_toNat, BitVec.toNat_ofNat])

theorem phaseAfter_eq_self_iff (step : Byte) (k : Nat) (p : Byte) :
    phaseAfter step k p = p ↔ 256 ∣ k * step.toNat := by
  rw [← BitVec.toNat_inj, phaseAfter_toNat]
  omega

/-- The multiples of `m` that return to 0 modulo `n` are those by a multiple of the order of `m`. -/
theorem dvd_mul_iff_div_gcd_dvd {n : Nat} (hn : n ≠ 0) (k m : Nat) : n ∣ k * m ↔ n / n.gcd m ∣ k := by
  rw [← ZMod.addOrderOf_coe m hn, addOrderOf_dvd_iff_nsmul_eq_zero, nsmul_eq_mul, ← Nat.cast_mul,
    ZMod.natCast_eq_zero_iff]

/-- Settles O40: `k` advances return when 256 divides `k` steps, and the period is the order of the step modulo 256. -/
theorem phasePeriod : Obligations.PhasePeriod := by
  intro p s k
  refine ⟨(phaseAfter_eq_self_iff s k p).trans (dvd_mul_iff_div_gcd_dvd (by decide) k s.toNat), ?_⟩
  rw [Nat.div_mul_right_comm (Nat.gcd_dvd_left 256 s.toNat), Nat.mul_div_assoc 256 (Nat.gcd_dvd_right 256 s.toNat)]

/-! ## A row of TICKs -/

/-- The sample of the TICK that comes after `j` others, all of them from block `b` (R186). -/
def Block.sampleAfter (b : Block) (table : Table) (j : Nat) : Byte :=
  scale (lutRead table (phaseAfter b.phaseStep j b.phase)) b.ampScale

theorem Block.sampleAfter_eq_ofNat (b : Block) (table : Table) (j : Nat) :
    b.sampleAfter table j = BitVec.ofNat 8
      ((lutRead table (BitVec.ofNat 8 (b.phase.toNat + j * b.phaseStep.toNat))).toNat * b.ampScale.toNat / 256) := by
  rw [Block.sampleAfter, scale_eq_ofNat, phaseAfter_eq_ofNat]

/-- `t` comes from `s` by `k` TICKs that play `table` (R186): the phase has advanced `k` times, of the block only it and
`out` have changed, and the samples stand in the history in order. -/
structure PlaysTicks (table : Table) (k : Nat) (s t : State) : Prop where
  phase : t.blk.phase = phaseAfter s.blk.phaseStep k s.blk.phase
  frame : t.blk = { s.blk with out := t.blk.out, phase := t.blk.phase }
  history : t.obs.history = s.obs.history ++ (List.range k).map fun j => .dacWrite (s.blk.sampleAfter table j)

/-- After one sample the rest of the row is a row from there, one sample further on. -/
theorem PlaysTicks.cons {table : Table} {k : Nat} {s t : State} (h : PlaysTicks table k (playSample table s) t) :
    PlaysTicks table (k + 1) s t := by
  obtain ⟨hphase, hframe, hhist⟩ := h
  refine ⟨hphase.trans (phaseAfter_succ _ k _).symm, hframe, ?_⟩
  have hsample (j : Nat) : (playSample table s).blk.sampleAfter table j = s.blk.sampleAfter table (j + 1) :=
    congrArg (fun p => scale (lutRead table p) s.blk.ampScale) (phaseAfter_succ _ j _).symm
  simp only [hhist, hsample, List.range_succ_eq_map, List.map_cons, List.map_map]
  exact List.append_assoc _ [_] _

/-- By induction on the TICKs: each plays a sample and takes its turn, and the next ones go on from there. -/
theorem run_ticks {table : Table} {rest : List Turn} (k : Nat) : ∀ s : State,
    s.resetTaken = true → s.blk.tickEn = true → tableOf s.blk.activeWave = some table →
    s.inp.turns = List.replicate k (.operation (encode .tick)) ++ rest →
    ∃ t, Host.Core.run Sys2Proof.core k s = .next t ∧ t.inp.turns = rest ∧ PlaysTicks table k s t := by
  induction k with
  | zero => exact fun s _ _ _ hturns => ⟨s, rfl, hturns, rfl, rfl, (List.append_nil _).symm⟩
  | succ k ih =>
    intro s hreset hen htable hturns
    rw [List.replicate_succ, List.cons_append] at hturns
    have hstep : step s = .next (playSample table (dropTurn (restPorts s))) := by
      rw [step_tick hturns hreset, takeTick_of_table (s := dropTurn (restPorts s)) hen htable]
    obtain ⟨t, hrun, hrest, hplays⟩ := ih (playSample table (dropTurn (restPorts s))) hreset hen htable
      (congrArg List.tail hturns)
    obtain ⟨hphase, hframe, hhist⟩ := hplays.cons
    exact ⟨t, (run_succ_of_next hstep k).trans hrun, hrest, hphase, hframe, hhist⟩

/-- Settles O39: the `j`-th sample and the last phase are those of so many advances from the start. -/
theorem ticksPlayTableInOrder : Obligations.TicksPlayTableInOrder := by
  intro k s table rest hreset hen hmem hturns
  obtain ⟨t, hrun, hrest, hphase, hframe, hhist⟩ := run_ticks k s hreset hen (tableOf_eq_some_of_mem hmem) hturns
  refine ⟨t, hrun, ?_, hframe, hrest, ?_⟩
  · rw [hphase, phaseAfter_toNat]
  · simpa only [Block.sampleAfter_eq_ofNat] using hhist

end Sys2Proof.Machine

/-! PROOFS. Faults and privilege (spec/60_exceptions.md R200, R201, R204, R208): what a host operation may write, what the
platform's answer decides, and how many faults an uninterrupted APPLY raises. -/

namespace Sys2Proof.Machine

/-! ## What a host operation may write -/

/-- Settles O20: a held operation does nothing, an accepted one has an effect that answers a read, stores a staging register
or starts an APPLY. -/
theorem hostOperationsWriteStagingOnly : Obligations.HostOperationsWriteStagingOnly := by
  intro i s t hhost hexec
  obtain ⟨effect, heffect, hcases⟩ := exec_host hhost s
  rw [heffect] at hexec
  obtain ⟨-, ⟨-, rfl⟩ | ⟨-, rfl⟩⟩ := hostAccept_next hexec
  · obtain ⟨v, h⟩ | h | h | ⟨d, h⟩ | ⟨d, h⟩ | ⟨wave, h⟩ := hcases <;> rw [h] <;> exact ⟨rfl, rfl, rfl, rfl⟩
  · exact ⟨rfl, rfl, rfl, rfl⟩

/-! ## What the platform's answer decides -/

/-- What the answer to a setup request makes of the enable `on` and of SETUP_FAULT, from `s` to `t` (R200). -/
def AnswerTaken (on : Block → Bool) (answer : Config.Answer) (s t : State) : Prop :=
  match answer with
  | .ok => on t.blk = true ∧ t.blk.setupFault = s.blk.setupFault
  | .fail => on t.blk = false ∧ t.blk.setupFault = true

/-- The micro-step from `s` takes the platform's answer to a request for `which`, with the enable `on`. -/
def State.TakesAnswer (s : State) (which : Peripheral) (on : Block → Bool) : Prop :=
  AnswerTaken on (requestSetup which s).1 s (microStep s)

section
variable {s : State} {job : Job} {pending : List FieldWrite}

theorem takesAnswer_enableDac (hq : s.blk.seq = .busy job .enableDac pending) (hoff : s.blk.dacEn = false) :
    s.TakesAnswer .dac Block.dacEn := by
  rw [State.TakesAnswer, microStep_enableDac hq]
  obtain ⟨hon, -⟩ | ⟨-, hanswer, h⟩ | ⟨-, hanswer, h⟩ := seqEnableDac_cases job s
  · simp [hoff] at hon
  · simp [AnswerTaken, hanswer, h]
  · simp [AnswerTaken, hanswer, h, faultFlags, hoff]

theorem takesAnswer_enableTick (hq : s.blk.seq = .busy job .enableTick pending) (hoff : s.blk.tickEn = false) :
    s.TakesAnswer .tickTimer Block.tickEn := by
  rw [State.TakesAnswer, microStep_enableTick hq]
  obtain ⟨hon, -⟩ | ⟨-, hanswer, h⟩ | ⟨-, hanswer, h⟩ := seqEnableTick_cases job s
  · simp [hoff] at hon
  · simp [AnswerTaken, hanswer, h]
  · simp [AnswerTaken, hanswer, h, faultFlags, hoff]

theorem takesAnswer_enablePulse (hq : s.blk.seq = .busy job .enablePulse pending) (hoff : s.blk.pulseEn = false) :
    s.TakesAnswer .pulse Block.pulseEn := by
  rw [State.TakesAnswer, microStep_enablePulse hq]
  obtain ⟨hon, -⟩ | ⟨-, hanswer, h⟩ | ⟨-, hanswer, h⟩ := seqEnablePulse_cases job s
  · simp [hoff] at hon
  · simp [AnswerTaken, hanswer, h]
  · simp [AnswerTaken, hanswer, h, faultFlags, hoff]

/-- Whatever is drawn, it is one of the two answers. -/
theorem State.TakesAnswer.enabled_or_faulted {which : Peripheral} {on : Block → Bool} (h : s.TakesAnswer which on) :
    (on (microStep s).blk = true ∧ (microStep s).blk.setupFault = s.blk.setupFault) ∨
    (on (microStep s).blk = false ∧ (microStep s).blk.setupFault = true) := by
  unfold State.TakesAnswer at h
  cases hanswer : (requestSetup which s).1 <;> rw [hanswer] at h
  · exact .inl h
  · exact .inr h

/-- A drawn answer is the one the micro-step takes. -/
theorem State.TakesAnswer.drawn {which : Peripheral} {on : Block → Bool} {answer : Config.Answer} {picks : List Nat}
    (h : (s.withDraws picks [answer]).TakesAnswer which on) :
    AnswerTaken on answer s (microStep (s.withDraws picks [answer])) := by
  have hdraw : (requestSetup which (s.withDraws picks [answer])).1 = answer :=
    congrArg Prod.fst (requestSetup_cons which rfl)
  rw [State.TakesAnswer, hdraw] at h
  exact h

/-- Both answers are admitted at a request that the block alone calls for, since the draws are no part of the block (R201). -/
theorem both_answers_of_takesAnswer {which : Peripheral} {on : Block → Bool}
    (h : ∀ t : State, t.blk = s.blk → t.TakesAnswer which on) :
    ((on (microStep s).blk = true ∧ (microStep s).blk.setupFault = s.blk.setupFault) ∨
      (on (microStep s).blk = false ∧ (microStep s).blk.setupFault = true)) ∧
    on (microStep (s.withDraws s.inp.picks [.ok])).blk = true ∧
    (microStep (s.withDraws s.inp.picks [.ok])).blk.setupFault = s.blk.setupFault ∧
    on (microStep (s.withDraws s.inp.picks [.fail])).blk = false ∧
    (microStep (s.withDraws s.inp.picks [.fail])).blk.setupFault = true := by
  have hdrawn (answer : Config.Answer) := (h (s.withDraws s.inp.picks [answer]) rfl).drawn
  obtain ⟨hon, hkept⟩ := hdrawn .ok
  exact ⟨(h s rfl).enabled_or_faulted, hon, hkept, hdrawn .fail⟩

end

/-- Settles O33: each of the three ENABLE stages, with its enable at 0, asks the platform and takes the answer. -/
theorem bothAnswersAdmitted : Obligations.BothAnswersAdmitted := by
  refine fun s job pending => ⟨fun hq hoff => ?_, fun hq hoff => ?_, fun hq hoff => ?_⟩
  · exact both_answers_of_takesAnswer fun t ht => takesAnswer_enableDac (ht ▸ hq) (ht ▸ hoff)
  · exact both_answers_of_takesAnswer fun t ht => takesAnswer_enableTick (ht ▸ hq) (ht ▸ hoff)
  · exact both_answers_of_takesAnswer fun t ht => takesAnswer_enablePulse (ht ▸ hq) (ht ▸ hoff)

/-! ## The faults of one APPLY -/

/-- At the end of an uninterrupted APPLY its ENABLE stages are over. -/
theorem EngineProgress.enableOver {s t : State} (h : EngineProgress s 0 t) : s.requestedJob.EnableOver s t := by
  obtain ⟨⟨-, hover⟩, -⟩ := (stageProgress_iff h.idle).1 h.apply.stage
  exact hover

/-- Settles O53: the stages have kept account of the faults, and with none the output of the requested mode is on. -/
theorem applyRaisesAtMostOneFault : Obligations.ApplyRaisesAtMostOneFault := by
  intro s haccepts ht
  obtain ⟨t, hrun, -, h⟩ := exists_runApply haccepts ht
  obtain ⟨es, hes⟩ := h.apply.history
  obtain ⟨hle, hone, hzero⟩ := h.enableOver.events hes.symm
  refine ⟨t, es, hrun, hes.symm, hle, hone, fun hnone => ?_⟩
  obtain ⟨⟨-, hfault, hsrc⟩, hon⟩ := hzero hnone
  refine ⟨hfault, hsrc, fun hcont => ?_, fun hsquare => ?_⟩
  · exact (Job.outputOn_iff_of_cont (s.requestedJob_square_iff.not.2 hcont) _).1 hon
  · exact (Job.outputOn_iff_of_square (s.requestedJob_square_iff.2 hsquare) _).1 hon

end Sys2Proof.Machine

/-! PROOFS. RESET, power-up and the sticky flags (spec/70_reset_and_hazards.md R220 to R224, 10_state.md R29, R33): what RESET
restores, that nothing is observed before the first one, and that no other step clears SETUP_FAULT or CONFIGURED. -/

namespace Sys2Proof.Machine

/-! ## RESET -/

/-- R220, R222: RESET is enabled in every state. -/
theorem exec_reset (s : State) : exec .reset s = .next (takeReset s) := rfl

/-- Settles O45: what `takeReset` makes of a state, written out. -/
theorem resetRestoresEverything : Obligations.ResetRestoresEverything :=
  ⟨decodeOp_evt 1#4, exec_reset⟩

/-- Settles O58: RESET waits for nothing, and writes everything that power-up leaves unspecified. -/
theorem firstResetGivesResetState : Obligations.FirstResetGivesResetState := fun _ _ hd =>
  (step_operation (rest := []) rfl hd (holds_of_unreset _ rfl)).trans (exec_reset _)

/-! ## Power-up -/

/-- Before the first RESET the invariant asks only that nothing has been observed (R51). -/
theorem State.PoweredUp.inv {s : State} (h : s.PoweredUp) : s.Inv := by
  have ⟨hr, _, _⟩ := h
  exact ⟨fun _ => h, fun htaken => by simp [hr] at htaken, fun htaken => by simp [hr] at htaken⟩

theorem powerUp_poweredUp (b : Block) (i : Inputs) : (State.powerUp b i).PoweredUp := ⟨rfl, rfl, rfl⟩

/-- Settles O56. -/
theorem powerUpHasInvariant : Obligations.PowerUpHasInvariant := fun b i =>
  ⟨powerUp_poweredUp b i, (powerUp_poweredUp b i).inv⟩

/-- A step that answers never takes `resetTaken` back (R51). -/
theorem step_resetTaken {s t : State} (h : step s = .next t) (hr : s.resetTaken = true) : t.resetTaken = true := by
  obtain ⟨-, -, rfl⟩ | ⟨-, s0, rfl | rfl, rfl⟩ | ⟨w, rest, i, -, -, -, hexec⟩ := step_cases h
  · exact hr
  · exact (microStep_frame (restPorts s)).1.trans hr
  · exact (microStep_frame (dropTurn (restPorts s))).1.trans hr
  · exact exec_resetTaken hexec

/-- What every step keeps stands at the end of a run. -/
theorem run_induction {P : State → Prop} (hstep : ∀ s t, P s → step s = .next t → P t) (k : Nat) :
    ∀ s t : State, P s → Host.Core.run Sys2Proof.core k s = .next t → P t := by
  induction k with
  | zero =>
    intro s t hs hrun
    cases hrun
    exact hs
  | succ k ih =>
    intro s t hs hrun
    match hfirst : step s with
    | .next u =>
      rw [run_succ_of_next hfirst] at hrun
      exact ih u t (hstep s u hs hfirst) hrun
    | .fault r => exact nomatch r
    | .refused r => rw [run_refused hfirst] at hrun; cases hrun

/-- What R224 says of a state reached from power-up with the block `b`: still powered up, with that block, or a RESET has been
taken and is the first event. -/
def State.SilentUntilReset (b : Block) (t : State) : Prop :=
  (t.PoweredUp ∧ t.blk = b) ∨ (t.resetTaken = true ∧ t.obs.history.head? = some .reset)

/-- Before the first RESET a step rests or takes it, and after it no step takes an event back. -/
theorem step_silentUntilReset (b : Block) (s t : State) (h : s.SilentUntilReset b) (hstep : step s = .next t) :
    t.SilentUntilReset b := by
  obtain ⟨hup, hblk⟩ | ⟨hr, hhead⟩ := h
  · have ⟨hr, hempty, _⟩ := hup
    obtain ⟨-, rfl⟩ | ⟨-, rfl⟩ := step_unreset_cases hr hstep
    · exact .inr ⟨rfl, by simp [hempty]⟩
    · exact .inl ⟨hup.congr rfl rfl rfl, hblk⟩
  · obtain ⟨hprefix, -⟩ := historyOnlyGrows s t hstep
    exact .inr ⟨step_resetTaken hstep hr, head?_of_prefix hhead hprefix⟩

/-- Settles O57, by induction on the number of steps. -/
theorem nothingObservedBeforeReset : Obligations.NothingObservedBeforeReset := fun k s t h =>
  run_induction (step_silentUntilReset s.blk) k s t (.inl ⟨h, rfl⟩)

/-! ## The sticky flags -/

/-- From `b` to `c` SETUP_FAULT is not cleared, and the source of the first fault stands (R33). -/
def Block.KeepsFault (b c : Block) : Prop :=
  b.setupFault = true → c.setupFault = true ∧ c.faultSrc = b.faultSrc

theorem Block.KeepsFault.of_eq {b c : Block} (hfault : c.setupFault = b.setupFault) (hsrc : c.faultSrc = b.faultSrc) :
    b.KeepsFault c :=
  fun h => ⟨hfault.trans h, hsrc⟩

/-- R33, R200: FAULT_SRC takes the code of a setup that fails only while SETUP_FAULT is 0. -/
theorem keepsFault_raise (which : Peripheral) (job : Job) (s : State) :
    s.blk.KeepsFault (toStage job .facade (raiseSetupFault which (requestSetup which s).2)).blk := by
  intro h
  simp [faultFlags, h]

/-- FIELDS writes no fault flag (R154). -/
theorem keepsFault_seqFields (job : Job) (pending : List FieldWrite) (s : State) :
    s.blk.KeepsFault (seqFields job pending s).blk := by
  cases pending with
  | nil => exact .of_eq rfl rfl
  | cons f rest =>
    obtain ⟨k, -, -, hk⟩ := seqFields_cons job f rest s
    exact .of_eq (by simp [hk, drawPick_blk]) (by simp [hk, drawPick_blk])

/-- Each ENABLE stage writes the fault flags only when its setup request fails (R155, R156). -/
theorem keepsFault_seqEnableDac (job : Job) (s : State) : s.blk.KeepsFault (seqEnableDac job s).blk := by
  obtain ⟨-, h⟩ | ⟨-, -, h⟩ | ⟨-, -, h⟩ := seqEnableDac_cases job s <;> rw [h]
  · exact .of_eq rfl rfl
  · exact .of_eq rfl rfl
  · exact keepsFault_raise .dac job s

theorem keepsFault_seqEnableTick (job : Job) (s : State) : s.blk.KeepsFault (seqEnableTick job s).blk := by
  obtain ⟨-, h⟩ | ⟨-, -, h⟩ | ⟨-, -, h⟩ := seqEnableTick_cases job s <;> rw [h]
  · exact .of_eq rfl rfl
  · exact .of_eq rfl rfl
  · exact keepsFault_raise .tickTimer job s

theorem keepsFault_seqEnablePulse (job : Job) (s : State) : s.blk.KeepsFault (seqEnablePulse job s).blk := by
  obtain ⟨-, h⟩ | ⟨-, -, h⟩ | ⟨-, -, h⟩ := seqEnablePulse_cases job s <;> rw [h]
  · exact .of_eq rfl rfl
  · exact .of_eq rfl rfl
  · exact keepsFault_raise .pulse job s

/-- No micro-step clears a fault or changes its source. -/
theorem keepsFault_microStep (s : State) : s.blk.KeepsFault (microStep s).blk := by
  match hq : s.blk.seq with
  | .idle => rw [microStep_idle hq]; exact .of_eq rfl rfl
  | .busy job .disable pending =>
    obtain ⟨-, hfault, hsrc, -⟩ := seqDisable_frame job pending s
    rw [microStep_disable hq]
    exact .of_eq hfault hsrc
  | .busy job .fields pending => rw [microStep_fields hq]; exact keepsFault_seqFields job pending s
  | .busy job .enableDac _ => rw [microStep_enableDac hq]; exact keepsFault_seqEnableDac job s
  | .busy job .enableTick _ => rw [microStep_enableTick hq]; exact keepsFault_seqEnableTick job s
  | .busy job .enablePulse _ => rw [microStep_enablePulse hq]; exact keepsFault_seqEnablePulse job s
  | .busy job .facade _ => rw [microStep_facade hq]; exact .of_eq rfl rfl

/-- No operation but RESET writes a fault flag. -/
theorem keepsFault_exec {i : Instr} {s t : State} (h : exec i s = .next t) (hi : i ≠ .reset) :
    s.blk.KeepsFault t.blk := by
  obtain ⟨rfl, -⟩ | ⟨-, ⟨-, rfl⟩ | ⟨-, -, rfl⟩ | ⟨-, -, hhost⟩⟩ := exec_cases h
  · exact absurd rfl hi
  · obtain ⟨-, -, out, phase, hblk⟩ := takeTick_frame s
    rw [hblk]
    exact .of_eq rfl rfl
  · exact .of_eq rfl rfl
  · obtain ⟨v, rfl⟩ | rfl | rfl | ⟨d, rfl⟩ | ⟨d, rfl⟩ | ⟨wave, rfl⟩ := hhost <;> exact .of_eq rfl rfl

/-- A step that takes no RESET clears no fault (R221). -/
theorem step_keepsFault {s t : State} (h : step s = .next t) (hreset : ¬ s.TakesReset) : s.blk.KeepsFault t.blk := by
  obtain ⟨-, -, rfl⟩ | ⟨-, s0, rfl | rfl, rfl⟩ | ⟨w, rest, i, ht, hd, -, hexec⟩ := step_cases h
  · exact .of_eq rfl rfl
  · exact keepsFault_microStep (restPorts s)
  · exact keepsFault_microStep (dropTurn (restPorts s))
  · have hi : i ≠ .reset := fun hi => hreset ⟨w, ⟨rest, ht⟩, hi ▸ hd⟩
    exact keepsFault_exec (s := dropTurn (restPorts s)) hexec hi

/-- A step that takes no RESET does not clear CONFIGURED: only FACADE writes it, and sets it (R29, R157). -/
theorem step_configured {s t : State} (h : step s = .next t) (hreset : ¬ s.TakesReset)
    (hconf : s.blk.configured = true) : t.blk.configured = true := by
  obtain hkept | ⟨job, pending, -, hblk⟩ := step_readback h hreset
  · obtain ⟨-, -, -, -, hsame⟩ := (Block.readback_eq_iff _ _).1 hkept
    exact hsame.trans hconf
  · rw [hblk]
    rfl

/-- Settles O46. -/
theorem onlyResetClearsFaultFlags : Obligations.OnlyResetClearsFaultFlags := fun _ _ h hreset =>
  ⟨step_keepsFault h hreset, step_configured h hreset, step_resetTaken h⟩

end Sys2Proof.Machine
